-- ==== Sys2Proof/Word.lean ====
section
/-! DEFINITION. The plain word types of the OB-412: bytes, clock values, tags, indexes. -/

namespace Sys2Proof

/-- One byte of a frame, a record or an answer (13.1). -/
abbrev Byte := BitVec 8

/-- A value of the millisecond clock (R1): 32 bits, wrapping. -/
abbrev Clock := BitVec 32

/-- The tag field of a frame (R3): 16 bits. -/
abbrev Tag := BitVec 16

/-- A block address (Conventions, "Sizes"): 40 bits. -/
abbrev BlockAddress := BitVec 40

/-- An initiator id, 0 to 15 (R3). -/
abbrev InitiatorId := Fin 16

/-- An index of the exchange table, 0 to 63 (R9). -/
abbrev EntryIndex := Fin 64

/-- The incarnation of an entry, 0 to 3 (R9). Adding one wraps modulo 4 (R11). -/
abbrev Incarnation := Fin 4

/-- An index of the view table, 0 to 127 (R23). -/
abbrev ViewIndex := Fin 128

/-- An index of the reply table, 0 to 31 (R23). -/
abbrev ReplyIndex := Fin 32

end Sys2Proof
end

