-- ==== Sys2Proof/Config.lean ====
section
/-! DEFINITION. What the part fixes: sizes, limits and periods, each with its rule, and the free value of the model. -/

namespace Sys2Proof.Config

/-- Cells in the pool (R111). -/
def totalCells : Nat := 2048
/-- Bytes in a cell (R111). -/
def cellBytes : Nat := 64
/-- Cells an ingress credit costs (R113). -/
def creditCells : Nat := 9
/-- The longest frame that can be stored (R114). -/
def longestFrame : Nat := 576
/-- Ingress credit limit of port I (R113). -/
def creditLimitI : Nat := 32
/-- Ingress credit limit of ports T0 and T1 (R113). -/
def creditLimitT : Nat := 16
/-- Greatest value of the peer credit counter (R118). -/
def peerCreditMax : Nat := 65535
/-- INIT wait in ms (R127). -/
def initWaitMs : Nat := 50
/-- INIT failures at which a port enters FAILED (R129). -/
def initFailureLimit : Nat := 8
/-- Revision the part's INIT carries (R127). -/
def initRevision : Nat := 1
/-- Maximum segment payload the part's INIT declares, in bytes (R127). -/
def ownSegment : Nat := 512
/-- Grace in ms (R80). -/
def graceMs : Nat := 250
/-- Body deadline in ms (R11, R136). -/
def bodyMs : Nat := 2000
/-- Longest body for which a PROCEED is made (R136). -/
def bodyMax : Nat := 300
/-- Completion of resync in ms (R155). -/
def resyncMs : Nat := 2
/-- Resend deadline of an alert batch in ms (R160). -/
def resendMs : Nat := 1000
/-- Lease time in bootstrap in ms (R42, R143). -/
def bootstrapLeaseMs : Nat := 30000
/-- Quota in bootstrap (R42). -/
def bootstrapQuota : Nat := 2
/-- Places of the hold queue (R92). -/
def holdPlaces : Nat := 16
/-- Records of the alert queue (R157). -/
def alertRecords : Nat := 32
/-- Greatest value of the dropped count (R158). -/
def droppedMax : Nat := 65535
/-- Most records in a batch (R159). -/
def batchRecords : Nat := 4

/-- FREE VALUE. The queue depth that LINK_STATE reports in its two bytes for a queue of more than 65535 descriptors: R146 and
13.2 state no such value. Applied to State.freeCount and to the port's position in the answer (log entry 14). -/
opaque freeQueueDepth : Nat → Nat → BitVec 16

end Sys2Proof.Config
end

