-- ==== Sys2Proof/Syntax.lean ====
section
/-! DEFINITION. The commands of the OB-412: one constructor of Instr per row of spec/opcode_table.json. A command is one event of
the part, whole and indivisible ("Events" in 00_scope.md). -/

namespace Sys2Proof

/-- The three ports of the part. -/
inductive Port where
  /-- the initiator link -/
  | i
  /-- target link T0 -/
  | t0
  /-- target link T1 -/
  | t1
  deriving DecidableEq, Repr

/-- The two target links. -/
inductive Target where
  | t0
  | t1
  deriving DecidableEq, Repr

/-- The event in which a management operation is performed (R139): the verdict, for an exchange without a body, or the last
body frame, for one with a body. -/
inductive PerformedAt where
  | verdict
  | lastBodyFrame
  deriving DecidableEq, Repr

/-- The commands. A frame operand is the whole frame as its bytes arrive, its length included (13.1). -/
inductive Instr where
  /-- POWER_ON_RESET: release of the reset pin (R165). -/
  | powerOnReset
  /-- SIGNAL_PRESENT on the lanes of a port (R127). -/
  | signalPresent (p : Port)
  /-- LANE_LOCK of a port (R127). -/
  | laneLock (p : Port)
  /-- SIGNAL_LOSS on the lanes of a port (R129, R130). -/
  | signalLoss (p : Port)
  /-- INIT_WAIT_EXPIRY of a port (R129). -/
  | initWaitExpiry (p : Port)
  /-- INIT_ARRIVAL: a peer INIT arrives on a port (R128). -/
  | initArrival (p : Port) (frame : List Byte)
  /-- PEER_RESTART: a peer INIT arrives on a port in UP (R130). -/
  | peerRestart (p : Port) (frame : List Byte)
  /-- CREDIT_ARRIVAL: a CREDIT arrives on a port (R118, R119). -/
  | creditArrival (p : Port) (frame : List Byte)
  /-- CREDITED_FRAME_ARRIVAL: a frame of any other kind arrives on a port (R114, R115). -/
  | creditedFrameArrival (p : Port) (frame : List Byte)
  /-- CREDIT_SEND by a port (R117). -/
  | creditSend (p : Port)
  /-- UNKNOWN_KIND_DISCARD by the frame sorter (R8). -/
  | unknownKindDiscard (p : Port)
  /-- WRONG_LINK_FRAME discarded by exchange control (R73). -/
  | wrongLinkFrame (p : Port)
  /-- VERDICT on the REQUEST that has waited longest (R45). -/
  | verdict
  /-- TARGET_PROCEED taken by exchange control (R63). -/
  | targetProceed (t : Target)
  /-- TARGET_DATA taken by exchange control (R65). -/
  | targetData (t : Target)
  /-- TARGET_STATUS taken by exchange control (R68). -/
  | targetStatus (t : Target)
  /-- TARGET_ABORT_DONE taken by exchange control (R83). -/
  | targetAbortDone (t : Target)
  /-- INITIATOR_DATA taken by exchange control (R64). -/
  | initiatorData
  /-- INITIATOR_ABORT taken by exchange control (R85). -/
  | initiatorAbort
  /-- EXCHANGE_DEADLINE_EXPIRY of an entry (R78, R79). -/
  | exchangeDeadlineExpiry (e : EntryIndex)
  /-- GRACE_EXPIRY of an entry (R84). -/
  | graceExpiry (e : EntryIndex)
  /-- HOLD_EXPIRY of an entry (R95). -/
  | holdExpiry (e : EntryIndex)
  /-- BODY_DEADLINE_EXPIRY of an entry (R138). -/
  | bodyDeadlineExpiry (e : EntryIndex)
  /-- LEASE_EXPIRY (R142). -/
  | leaseExpiry
  /-- RESEND_DEADLINE_EXPIRY (R160). -/
  | resendDeadlineExpiry
  /-- RESYNC_COMPLETION (R156). -/
  | resyncCompletion
  /-- REPLY_SERVICE_START (R105). -/
  | replyServiceStart
  /-- TRANSMISSION of one frame or piece by a port (R122). -/
  | transmission (p : Port)
  /-- HEAD_DISCARD at the head of a port's egress queue (R74, R75). -/
  | headDiscard (p : Port)
  /-- IDENTIFY performed (R146). -/
  | identify (w : PerformedAt)
  /-- CLAIM performed (R143). -/
  | claim (w : PerformedAt)
  /-- RENEW performed (R144). -/
  | renew (w : PerformedAt)
  /-- RELEASE_LEASE performed (R144). -/
  | releaseLease (w : PerformedAt)
  /-- READ_ENTRY performed (R145). -/
  | readEntry (w : PerformedAt)
  /-- WRITE_ENTRY performed (R150). -/
  | writeEntry (w : PerformedAt)
  /-- CLEAR_STAGING performed (R151). -/
  | clearStaging (w : PerformedAt)
  /-- COMMIT performed (R152). -/
  | commit (w : PerformedAt)
  /-- READ_EXCHANGE performed (R145). -/
  | readExchange (w : PerformedAt)
  /-- HOLD_LIST performed (R103). -/
  | holdList (w : PerformedAt)
  /-- HOLD_DECIDE performed (R96). -/
  | holdDecide (w : PerformedAt)
  /-- ALERT_ACK performed (R161). -/
  | alertAck (w : PerformedAt)
  /-- END_EXCHANGE performed (R90). -/
  | endExchange (w : PerformedAt)
  /-- LINK_STATE performed (R146). -/
  | linkState (w : PerformedAt)
  /-- WARM_RESET performed (R147). -/
  | warmReset (w : PerformedAt)
  /-- MILLISECOND_CLOCK_ADVANCE (R1). -/
  | millisecondClockAdvance
  /-- RESET_PIN_ASSERTION (R165). -/
  | resetPinAssertion
  deriving DecidableEq, Repr

end Sys2Proof
end

