-- ==== Sys2Proof/WellFormed.lean ====
section
/-! DEFINITION. Which commands are well formed: a frame operand begins with the kind code of the event that carries it (R7, R114;
kind codes in 13.1). -/

namespace Sys2Proof

/-- An INIT frame: kind code 08h (13.1). -/
def isInitFrame (frame : List Byte) : Bool := frame.head? == some 0x08#8

/-- A CREDIT frame: kind code 07h (13.1). -/
def isCreditFrame (frame : List Byte) : Bool := frame.head? == some 0x07#8

/-- A credited frame is of any kind other than CREDIT and INIT (R114). -/
def isCreditedFrame (frame : List Byte) : Bool := !isInitFrame frame && !isCreditFrame frame

/-- The check of a command's operands. -/
def Instr.wellFormed : Instr → Bool
  | .powerOnReset => true
  | .signalPresent _ => true
  | .laneLock _ => true
  | .signalLoss _ => true
  | .initWaitExpiry _ => true
  | .initArrival _ frame => isInitFrame frame
  | .peerRestart _ frame => isInitFrame frame
  | .creditArrival _ frame => isCreditFrame frame
  | .creditedFrameArrival _ frame => isCreditedFrame frame
  | .creditSend _ => true
  | .unknownKindDiscard _ => true
  | .wrongLinkFrame _ => true
  | .verdict => true
  | .targetProceed _ => true
  | .targetData _ => true
  | .targetStatus _ => true
  | .targetAbortDone _ => true
  | .initiatorData => true
  | .initiatorAbort => true
  | .exchangeDeadlineExpiry _ => true
  | .graceExpiry _ => true
  | .holdExpiry _ => true
  | .bodyDeadlineExpiry _ => true
  | .leaseExpiry => true
  | .resendDeadlineExpiry => true
  | .resyncCompletion => true
  | .replyServiceStart => true
  | .transmission _ => true
  | .headDiscard _ => true
  | .identify _ => true
  | .claim _ => true
  | .renew _ => true
  | .releaseLease _ => true
  | .readEntry _ => true
  | .writeEntry _ => true
  | .clearStaging _ => true
  | .commit _ => true
  | .readExchange _ => true
  | .holdList _ => true
  | .holdDecide _ => true
  | .alertAck _ => true
  | .endExchange _ => true
  | .linkState _ => true
  | .warmReset _ => true
  | .millisecondClockAdvance => true
  | .resetPinAssertion => true

end Sys2Proof
end

