-- ==== Sys2Proof/Machine/State.lean ====
section
/-! DEFINITION. Everything the OB-412 holds, as plain data, and its value right after power-on reset. -/

namespace Sys2Proof.Machine

/-! ## Frames and requests -/

/-- Direction of a REQUEST (R4; codes in 13.1). -/
inductive Direction where
  | noData
  | dirIn
  | dirOut
  deriving DecidableEq, Repr

/-- Class of an opcode (R37; codes in 13.2). -/
inductive OpClass where
  | undefined
  | readBlocks
  | writeBlocks
  | control
  | query
  | forbidden
  deriving DecidableEq, Repr

/-- Outcome of an ABORT_DONE (R6). -/
inductive AbortOutcome where
  | aborted
  | notFound
  deriving DecidableEq, Repr

/-- Names an entry at one incarnation (R14, R92, R104). -/
structure EntryRef where
  index : EntryIndex
  inc   : Incarnation
  deriving DecidableEq, Repr

/-- The fields of a well-formed REQUEST (R4). -/
structure Request where
  initiator : InitiatorId
  tag       : Tag
  unit      : Byte
  opcode    : Byte
  direction : Direction
  length    : Nat
  block     : BlockAddress
  count     : Nat
  /-- the parameter block; empty when it is absent (R46) -/
  params    : List Byte
  deriving DecidableEq, Repr

/-! ## Alert records (R157) -/

/-- Details of a TIMEOUT alert, in the order of R157. -/
inductive TimeoutDetail where
  | notSent
  | sent
  | body
  deriving DecidableEq, Repr

/-- Details of a PHASE_VIOLATION alert, in the order of R157. -/
inductive ViolationDetail where
  | form
  | direction
  | offset
  | overWindow
  | overLength
  deriving DecidableEq, Repr

/-- Details of a STALE_FRAME alert, in the order of R157. -/
inductive StaleDetail where
  | tagRange
  | initiatorId
  | entryFree
  | incarnation
  | notData
  | otherLink
  | notSent
  | unknownKind
  | shortFrame
  | held
  | noExchange
  | afterStatus
  | wrongLink
  | noAbort
  | form
  | oversize
  deriving DecidableEq, Repr

/-- Details of a LINK_CHANGE alert, in the order of R157. -/
inductive LinkDetail where
  | up
  | signalLoss
  | peerRestart
  | creditOverrun
  | sameRole
  | badInit
  | noInit
  deriving DecidableEq, Repr

/-- Details of a CREDIT_OVERRUN alert, in the order of R157. -/
inductive OverrunDetail where
  | noCredit
  | peerCredit
  deriving DecidableEq, Repr

/-- Reasons for the end of a lease (R142), in the order of R157. -/
inductive LeaseEnd where
  | expired
  | released
  | revoked
  | linkLost
  deriving DecidableEq, Repr

/-- Kind of an alert with its detail (R157). -/
inductive AlertCause where
  | holdArrival
  | holdExpired
  | denial (code : Byte)
  | timeout (d : TimeoutDetail)
  | phaseViolation (d : ViolationDetail)
  | staleFrame (d : StaleDetail)
  | linkChange (d : LinkDetail)
  | creditOverrun (d : OverrunDetail)
  | commitDone
  | leaseEnded (r : LeaseEnd)
  deriving DecidableEq, Repr

/-- The held request's fields in a HOLD_ARRIVAL alert (R93). -/
structure AlertRequest where
  opcode : Byte
  block  : BlockAddress
  count  : Nat
  deriving DecidableEq, Repr

/-- An alert record (R157): cause and time always present, the rest where the posting rule names it. -/
structure Alert where
  cause      : AlertCause
  time       : Clock
  entry      : Option EntryRef := none
  initiator  : Option InitiatorId := none
  tag        : Option Tag := none
  view       : Option ViewIndex := none
  link       : Option Port := none
  frameKind  : Option Byte := none
  request    : Option AlertRequest := none
  generation : Option (BitVec 32) := none
  deriving DecidableEq, Repr

/-- What a frame of the part's own carries beyond the common header (R4 to R7). -/
inductive FrameBody where
  | request (unit opcode : Byte) (direction : Direction) (length : Nat) (block : BlockAddress) (count : Nat) (params : List Byte)
  | proceed (window : Nat)
  | data (offset : Nat) (payload : List Byte)
  | status (code : Byte) (fromTarget residueAdjusted : Bool) (residue : Nat) (detail : List Byte)
  | abort
  | abortDone (outcome : AbortOutcome)
  | credit (increment : Nat)
  | init (role : Byte) (segment : Nat) (initialCredit : Nat) (revision : Nat)
  | alert (sequence : BitVec 16) (dropped : Nat) (records : List Alert)
  deriving DecidableEq, Repr

/-- A frame the part sends: the common fields of R3 and the body of its kind. -/
structure Frame where
  initiator : InitiatorId
  tag       : Tag
  body      : FrameBody
  deriving DecidableEq, Repr

/-! ## Egress queues (R120) -/

/-- The three kinds of descriptor (R120). A run of a snapshot or answer chain is a stored-frame descriptor whose frame is
made at transmission (R105, R106). -/
inductive DescriptorContent where
  /-- a frame rewritten in its own chain of `cells` cells -/
  | stored (frame : Frame) (cells : Nat)
  /-- one run of a snapshot or answer chain, with its data cells -/
  | run (offset : Nat) (payload : List Byte)
  /-- a bridge-made frame, recorded whole when it was queued (R121) -/
  | made (frame : Frame)
  /-- the alert unit's in-flight batch -/
  | alert
  deriving DecidableEq, Repr

/-- A descriptor of an egress queue (R120). -/
structure Descriptor where
  content  : DescriptorContent
  /-- the entry and incarnation it was queued for (R14); none for refusals and NOT_FOUND answers -/
  entry    : Option EntryRef := none
  /-- payload bytes already sent in pieces (R123) -/
  progress : Nat := 0
  /-- the closing STATUS that the warm-reset-pending record names (R147) -/
  warmMark : Bool := false
  deriving DecidableEq, Repr

/-! ## Link records (R126) -/

/-- State of a port (R126). -/
inductive PortState where
  | down
  | training
  | initWait
  | up
  | failed
  deriving DecidableEq, Repr

/-- The link record of a port with its egress queue, the frames that wait for their consumer, and what it has sent. -/
structure PortRecord where
  state        : PortState := .down
  /-- INIT failures, 0 to 8 (R126) -/
  initFailures : Nat := 0
  /-- INIT wait deadline, present in INIT_WAIT alone (R126) -/
  initDeadline : Option Clock := none
  /-- M, the peer maximum segment payload in bytes, present in UP alone (R126) -/
  peerSegment  : Option Nat := none
  /-- peer credit counter (R118) -/
  peerCredit   : Nat := 0
  /-- ingress credit of an INIT not yet answered (R113) -/
  offered      : Nat := 0
  /-- ingress credit the peer has been told of (R113) -/
  announced    : Nat := 0
  /-- ingress credit granted and not yet announced (R113) -/
  owed         : Nat := 0
  /-- egress queue, head first (R120) -/
  egress       : List Descriptor := []
  /-- frames stored in cells that wait for their consumer, in order of arrival (R8, R43) -/
  arrived      : List (List Byte) := []
  /-- MODEL'S OWN: the frames the port has sent, oldest first (log entry 6) -/
  wire         : List (List Byte) := []
  deriving DecidableEq, Repr

/-! ## Exchange table (R9) -/

/-- State of an entry in use (R10). FREE is the absence of an exchange. -/
inductive EntryState where
  | held
  | issued
  | moving
  | replying
  | mgmtBody
  | mgmtAnswer
  | aborting
  deriving DecidableEq, Repr

/-- Kind of an exchange (R2). -/
inductive ExchangeKind where
  | data
  | queryReply
  | mgmt
  deriving DecidableEq, Repr

/-- Cause of an abort (R80). -/
inductive AbortOrigin where
  | initiator
  | timeout
  | phase
  | management
  deriving DecidableEq, Repr

/-- Which of the four deadlines the entry's one timer holds (R9). -/
inductive DeadlineKind where
  | exchange
  | hold
  | grace
  | body
  deriving DecidableEq, Repr

/-- The setting of an entry's timer (R9). -/
structure Deadline where
  kind : DeadlineKind
  due  : Clock
  deriving DecidableEq, Repr

/-- The fields of R9 that kind DATA holds. -/
structure Routing where
  link        : Target
  unit        : Byte
  /-- translated block address: the address that is or will be sent (R53) -/
  block       : BlockAddress
  commandSent : Bool
  deriving DecidableEq, Repr

/-- The stored request of an entry (R9): attached to the entry in its cells, or the chain of the REQUEST descriptor in the target's egress
queue. -/
inductive StoredRequest where
  | inCells (frame : List Byte)
  | inQueue
  deriving DecidableEq, Repr

/-- A reply snapshot: the bookkeeping cell of R104 and the bytes of the data cells. The snapshot length is the length of `data`;
the reply record index is the entry's own field. -/
structure Snapshot where
  code    : Byte
  data    : List Byte
  started : Bool
  deriving DecidableEq, Repr

/-- A management answer once it is written (R140): its length in bytes and the closing code that follows it. -/
structure Answer where
  code   : Byte
  length : Nat
  deriving DecidableEq, Repr

/-- A target STATUS parked on its entry (R69), by the fields it brought. -/
structure ParkedStatus where
  code    : Byte
  residue : Nat
  detail  : List Byte
  cells   : Nat
  deriving DecidableEq, Repr

/-- An entry in use: the fields of R9, absent where R9 says so. -/
structure Exchange where
  state         : EntryState
  kind          : ExchangeKind
  initiator     : InitiatorId
  tag           : Tag
  opcode        : Byte
  direction     : Direction
  length        : Nat
  closed        : Bool := false
  moved         : Nat := 0
  proceeded     : Option Nat := none
  /-- DATA waiting (R61) -/
  dataWaiting   : Nat := 0
  view          : Option ViewIndex := none
  routing       : Option Routing := none
  storedRequest : Option StoredRequest := none
  deadline      : Option Deadline := none
  origin        : Option AbortOrigin := none
  replyRecord   : Option ReplyIndex := none
  snapshot      : Option Snapshot := none
  /-- management operation code (R136); absent when the parameter block is -/
  operation     : Option Byte := none
  /-- body chain: the stored body frames received so far (R137) -/
  bodyFrames    : List (List Byte) := []
  answer        : Option Answer := none
  parked        : Option ParkedStatus := none
  deriving DecidableEq, Repr

/-- One of the 64 entries: its incarnation is kept while it is FREE (R9). -/
structure Entry where
  inc      : Incarnation := 0
  exchange : Option Exchange := none
  deriving DecidableEq, Repr

/-- A place of the hold queue (R92). -/
structure HoldPlace where
  entry     : EntryRef
  /-- the view's exchange timeout at the verdict, in ms -/
  timeoutMs : Nat
  deriving DecidableEq, Repr

/-! ## Policy tables (R23) -/

/-- Fields of a present initiator record (R27). -/
structure InitiatorRecord where
  dataRight : Bool
  mgmtRight : Bool
  quota     : Nat
  /-- lease time in seconds -/
  leaseTime : Nat
  deriving DecidableEq, Repr

/-- Hold mode of a view (R35). -/
inductive HoldMode where
  | noHold
  | holdWrites
  | holdAll
  deriving DecidableEq, Repr

/-- Fields of a valid view record (R30). The mask, the link code and the block size code are stored as written (R150). -/
structure View where
  mask          : BitVec 16
  virtualUnit   : Byte
  linkCode      : Byte
  unit          : Byte
  base          : BlockAddress
  extent        : Nat
  blockSizeCode : Byte
  readRight     : Bool
  writeRight    : Bool
  controlRight  : Bool
  holdMode      : HoldMode
  /-- in units of 100 ms -/
  holdWait      : Nat
  /-- in units of 10 ms -/
  timeout       : Nat
  alertOnDeny   : Bool
  deriving DecidableEq, Repr

/-- Fields of a valid reply record (R39). The link code is stored as written (R150). -/
structure ReplyRecord where
  linkCode : Byte
  unit     : Byte
  opcode   : Byte
  /-- none is ANY -/
  selector : Option Byte
  code     : Byte
  data     : List Byte
  deriving DecidableEq, Repr

/-- A bank: the four tables of R23. An absent or invalid record holds no field (R24). -/
structure Bank where
  initiators : Vector (Option InitiatorRecord) 16
  views      : Vector (Option View) 128
  classes    : Vector OpClass 256
  replies    : Vector (Option ReplyRecord) 32
  deriving DecidableEq, Repr

/-- Every record at its cleared value (R24). -/
def Bank.cleared : Bank where
  initiators := Vector.replicate 16 none
  views := Vector.replicate 128 none
  classes := Vector.replicate 256 .undefined
  replies := Vector.replicate 32 none

/-- The two banks (R23). -/
inductive BankName where
  | a
  | b
  deriving DecidableEq, Repr

/-! ## Lease and alert delivery -/

/-- The lease while an owner exists (R142). -/
structure Lease where
  owner    : InitiatorId
  deadline : Clock
  deriving DecidableEq, Repr

/-- The batch in flight (R159): its records are the first `size` of the alert queue. -/
structure Batch where
  size     : Nat
  sequence : BitVec 16
  /-- carried dropped count -/
  carried  : Nat
  /-- resend deadline, present while the batch's frame has left port I -/
  resend   : Option Clock
  /-- whether the first sending has been made: a resent frame carries a dropped count of 0 (R160) -/
  sentOnce : Bool
  deriving DecidableEq, Repr

/-! ## The whole part -/

/-- Everything the part holds, and the queue of commands that wait. -/
structure State where
  /-- the reset pin is held low (R165) -/
  resetPin    : Bool
  /-- the millisecond clock (R1) -/
  clock       : Clock
  portI       : PortRecord
  portT0      : PortRecord
  portT1      : PortRecord
  /-- exchange table (R9) -/
  entries     : Vector Entry 64
  /-- hold queue, head first (R92) -/
  holdQueue   : List HoldPlace
  /-- the reply engine's start list, head first (R104) -/
  startList   : List EntryRef
  /-- the lease record (R142) -/
  lease       : Option Lease
  /-- the warm-reset-pending record: some descriptor of port I bears warmMark (R147) -/
  warmPending : Bool
  bankA       : Bank
  bankB       : Bank
  /-- active-bank indicator (R149) -/
  active      : BankName
  /-- generation (R149) -/
  generation  : BitVec 32
  /-- staging-dirty flag (R149) -/
  dirty       : Bool
  /-- resync: none is IDLE, some D is RUNNING with completion deadline D (R149) -/
  resync      : Option Clock
  /-- alert queue, oldest first (R157) -/
  alerts      : List Alert
  /-- dropped count (R158) -/
  dropped     : Nat
  /-- delivery: none is IDLE, some b is IN_FLIGHT with batch b (R159) -/
  batch       : Option Batch
  /-- sequence number (R159) -/
  sequence    : BitVec 16
  /-- number of free cells (R111; log entry 5) -/
  freeCells   : Nat
  /-- the port at which the next credit grant is tried first (R116) -/
  rotation    : Port
  /-- MODEL'S OWN: the counter the free values are taken at (log entry 21) -/
  freeCount   : Nat
  /-- MODEL'S OWN: the commands that wait, first in, first out (log entry 2) -/
  pending     : List Instr
  deriving DecidableEq, Repr

/-- The part right after power-on reset (R21, R26, R111, R113, R118, R120, R126, R142, R147, R149, R157 to R159, R165). The values of
`wire` and `freeCount` are the model's own. -/
def State.reset : State where
  resetPin := false
  clock := 0#32
  portI := {}
  portT0 := {}
  portT1 := {}
  entries := Vector.replicate 64 {}
  holdQueue := []
  startList := []
  lease := none
  warmPending := false
  bankA := Bank.cleared
  bankB := Bank.cleared
  active := .a
  generation := 0#32
  dirty := false
  resync := none
  alerts := []
  dropped := 0
  batch := none
  sequence := 0#16
  freeCells := Config.totalCells
  rotation := .i
  freeCount := 0
  pending := []

/-- Why a step can stop with a fault: nothing does. The spec gives the part a response to every frame, request and expiry, the malformed,
late and out-of-range ones included (00_scope.md, "What this manual covers"), so no command faults and there is no constructor. -/
inductive Fault where
  deriving DecidableEq, Repr

/-- Why a step can be refused. -/
inductive Refusal where
  /-- raised by an arm of exec whose command has no meaning in the model yet, by the row's mnemonic; safe: nothing is claimed
  of that command. No arm raises it: every row has its meaning. -/
  | notModelled (mnemonic : String)
  deriving DecidableEq, Repr

end Sys2Proof.Machine
end

