-- ==== Sys2Proof/Machine/Operands.lean ====
section
/-! DEFINITION. Byte layouts (13.1 to 13.3): reading the fields of arrived frames, writing the frames the part sends, the policy records
of bodies and answers, and the alert records. Multi-byte fields are most significant byte first. -/

namespace Sys2Proof.Machine

/-! ## Bytes -/

/-- Byte n of a frame. -/
def byteAt (f : List Byte) (n : Nat) : Byte := f.getD n 0#8

/-- The value of a run of bytes, most significant first. -/
def beNat : List Byte → Nat
  | [] => 0
  | b :: bs => b.toNat * 256 ^ bs.length + beNat bs

/-- The field of k bytes that begins at byte n. -/
def fieldAt (f : List Byte) (n k : Nat) : Nat := beNat ((f.drop n).take k)

/-- A value as k bytes, most significant first. -/
def toBE : Nat → Nat → List Byte
  | 0, _ => []
  | k + 1, v => BitVec.ofNat 8 (v / 256 ^ k) :: toBE k v

/-- Cells a run of n bytes occupies (R111). -/
def cellsFor (n : Nat) : Nat := (n + (Config.cellBytes - 1)) / Config.cellBytes

/-- A run of bytes cut into runs of m bytes, the last holding what remains (R105, R123). The fuel is the number of bytes. -/
def runsOf (m : Nat) : Nat → List Byte → List (List Byte)
  | 0, _ => []
  | _, [] => []
  | fuel + 1, b :: bs => (b :: bs).take (max m 1) :: runsOf m fuel ((b :: bs).drop (max m 1))

/-! ## Kind codes and common header (R163) -/

/-- Kind codes of 13.1. -/
def kindRequest : Byte := 0x01#8
def kindProceed : Byte := 0x02#8
def kindData : Byte := 0x03#8
def kindStatus : Byte := 0x04#8
def kindAbort : Byte := 0x05#8
def kindAbortDone : Byte := 0x06#8
def kindCredit : Byte := 0x07#8
def kindInit : Byte := 0x08#8
def kindAlert : Byte := 0x09#8

/-- Initiator id of a frame: bits 7 to 4 of byte 1. -/
def frameInitiator (f : List Byte) : InitiatorId := Fin.ofNat 16 ((byteAt f 1).toNat / 16)

/-- Tag of a frame: bytes 2 and 3. -/
def frameTag (f : List Byte) : Tag := BitVec.ofNat 16 (fieldAt f 2 2)

/-- Bits 3 to 0 of byte 1 are reserved. -/
def headerReservedZero (f : List Byte) : Bool := (byteAt f 1).toNat % 16 == 0

/-- Whether every byte named is zero. -/
def bytesZero (f : List Byte) (ns : List Nat) : Bool := ns.all fun n => byteAt f n == 0#8

/-! ## REQUEST (13.1) -/

/-- Header length of a REQUEST. -/
def requestHeader : Nat := 20

/-- Direction codes: 00h NONE, 01h IN, 02h OUT. -/
def directionOf (b : Byte) : Option Direction :=
  if b = 0x00#8 then some .noData
  else if b = 0x01#8 then some .dirIn
  else if b = 0x02#8 then some .dirOut
  else none

/-- Code of a direction. -/
def Direction.code : Direction → Byte
  | .noData => 0x00#8
  | .dirIn => 0x01#8
  | .dirOut => 0x02#8

/-- Transfer length of a REQUEST: bytes 8 to 10. -/
def requestLength (f : List Byte) : Nat := fieldAt f 8 3

/-- Parameter length of a REQUEST: byte 7. -/
def requestParamLength (f : List Byte) : Nat := (byteAt f 7).toNat

/-- Block count of a REQUEST: bytes 17 and 18. -/
def requestCount (f : List Byte) : Nat := fieldAt f 17 2

/-- Parameter block of a REQUEST: byte 20 onward. -/
def requestParams (f : List Byte) : List Byte := f.drop requestHeader

/-- The fields of a REQUEST whose form has been checked (R4). -/
def readRequest (f : List Byte) : Request where
  initiator := frameInitiator f
  tag := frameTag f
  unit := byteAt f 4
  opcode := byteAt f 5
  direction := (directionOf (byteAt f 6)).getD .noData
  length := requestLength f
  block := BitVec.ofNat 40 (fieldAt f 12 5)
  count := requestCount f
  params := requestParams f

/-! ## Fields of the other arrived frames (13.1) -/

/-- Window of a PROCEED: bytes 4 to 6. -/
def proceedWindow (f : List Byte) : Nat := fieldAt f 4 3
/-- Offset of a DATA: bytes 4 to 6. -/
def dataOffset (f : List Byte) : Nat := fieldAt f 4 3
/-- Payload length field of a DATA: bytes 8 and 9. -/
def dataLength (f : List Byte) : Nat := fieldAt f 8 2
/-- Payload of a DATA: byte 12 onward. -/
def dataPayload (f : List Byte) : List Byte := f.drop 12
/-- Result code of a STATUS: byte 4. -/
def statusCode (f : List Byte) : Byte := byteAt f 4
/-- Detail length field of a STATUS: byte 6. -/
def statusDetailLength (f : List Byte) : Nat := (byteAt f 6).toNat
/-- Residue of a STATUS: bytes 8 to 10. -/
def statusResidue (f : List Byte) : Nat := fieldAt f 8 3
/-- Detail of a STATUS: byte 12 onward. -/
def statusDetail (f : List Byte) : List Byte := f.drop 12
/-- Increment of a CREDIT: byte 4. -/
def creditIncrement (f : List Byte) : Nat := (byteAt f 4).toNat
/-- Role of an INIT: byte 4. -/
def initRole (f : List Byte) : Byte := byteAt f 4
/-- Maximum segment payload of an INIT, in units of 64 bytes: byte 5. -/
def initSegmentUnits (f : List Byte) : Nat := (byteAt f 5).toNat
/-- Initial credit of an INIT: byte 6. -/
def initCredit (f : List Byte) : Nat := (byteAt f 6).toNat

/-- Role codes: 01h INITIATOR_SIDE, 02h TARGET_SIDE. -/
def roleInitiatorSide : Byte := 0x01#8
def roleTargetSide : Byte := 0x02#8

/-! ## Alert records (13.3) -/

/-- Kind byte: 01h to 0Ah in the order of R157. -/
def AlertCause.kindByte : AlertCause → Byte
  | .holdArrival => 0x01#8
  | .holdExpired => 0x02#8
  | .denial _ => 0x03#8
  | .timeout _ => 0x04#8
  | .phaseViolation _ => 0x05#8
  | .staleFrame _ => 0x06#8
  | .linkChange _ => 0x07#8
  | .creditOverrun _ => 0x08#8
  | .commitDone => 0x09#8
  | .leaseEnded _ => 0x0A#8

/-- Number of a TIMEOUT detail. -/
def TimeoutDetail.byte : TimeoutDetail → Byte
  | .notSent => 0x01#8
  | .sent => 0x02#8
  | .body => 0x03#8

/-- Number of a PHASE_VIOLATION detail. -/
def ViolationDetail.byte : ViolationDetail → Byte
  | .form => 0x01#8
  | .direction => 0x02#8
  | .offset => 0x03#8
  | .overWindow => 0x04#8
  | .overLength => 0x05#8

/-- Number of a STALE_FRAME detail: TAG_RANGE 01h to OVERSIZE 10h. -/
def StaleDetail.byte : StaleDetail → Byte
  | .tagRange => 0x01#8
  | .initiatorId => 0x02#8
  | .entryFree => 0x03#8
  | .incarnation => 0x04#8
  | .notData => 0x05#8
  | .otherLink => 0x06#8
  | .notSent => 0x07#8
  | .unknownKind => 0x08#8
  | .shortFrame => 0x09#8
  | .held => 0x0A#8
  | .noExchange => 0x0B#8
  | .afterStatus => 0x0C#8
  | .wrongLink => 0x0D#8
  | .noAbort => 0x0E#8
  | .form => 0x0F#8
  | .oversize => 0x10#8

/-- Number of a LINK_CHANGE detail. -/
def LinkDetail.byte : LinkDetail → Byte
  | .up => 0x01#8
  | .signalLoss => 0x02#8
  | .peerRestart => 0x03#8
  | .creditOverrun => 0x04#8
  | .sameRole => 0x05#8
  | .badInit => 0x06#8
  | .noInit => 0x07#8

/-- Number of a CREDIT_OVERRUN detail. -/
def OverrunDetail.byte : OverrunDetail → Byte
  | .noCredit => 0x01#8
  | .peerCredit => 0x02#8

/-- Number of a LEASE_ENDED detail. -/
def LeaseEnd.byte : LeaseEnd → Byte
  | .expired => 0x01#8
  | .released => 0x02#8
  | .revoked => 0x03#8
  | .linkLost => 0x04#8

/-- Detail byte: 00h for NONE, the refusal's code for DENIAL, else the number in R157's list for the kind. -/
def AlertCause.detailByte : AlertCause → Byte
  | .holdArrival => 0x00#8
  | .holdExpired => 0x00#8
  | .denial c => c
  | .timeout d => d.byte
  | .phaseViolation d => d.byte
  | .staleFrame d => d.byte
  | .linkChange d => d.byte
  | .creditOverrun d => d.byte
  | .commitDone => 0x00#8
  | .leaseEnded r => r.byte

/-- Link byte of an alert: 00h I, 01h T0, 02h T1. -/
def alertLinkCode : Port → Byte
  | .i => 0x00#8
  | .t0 => 0x01#8
  | .t1 => 0x02#8

/-- One bit of a flags byte. -/
def bitIf (b : Bool) (value : Nat) : Nat := if b then value else 0

/-- Presence byte of an alert record (13.3, byte 2). -/
def Alert.presence (a : Alert) : Byte :=
  BitVec.ofNat 8 (bitIf a.entry.isSome 1 + bitIf a.initiator.isSome 2 + bitIf a.tag.isSome 4 + bitIf a.view.isSome 8
    + bitIf a.link.isSome 16 + bitIf a.frameKind.isSome 32 + bitIf a.request.isSome 64 + bitIf a.generation.isSome 128)

/-- An initiator id as a byte. -/
def initiatorByte (n : InitiatorId) : Byte := BitVec.ofNat 8 n.val

/-- The 32 bytes of an alert record (13.3). A field whose presence bit is clear is zero. -/
def Alert.encode (a : Alert) : List Byte :=
  [a.cause.kindByte, a.cause.detailByte, a.presence, 0x00#8]
    ++ toBE 4 a.time.toNat
    ++ [BitVec.ofNat 8 ((a.entry.map fun r => r.index.val).getD 0), BitVec.ofNat 8 ((a.entry.map fun r => r.inc.val).getD 0),
        (a.initiator.map initiatorByte).getD 0#8, (a.link.map alertLinkCode).getD 0#8]
    ++ toBE 2 ((a.tag.map BitVec.toNat).getD 0)
    ++ [BitVec.ofNat 8 ((a.view.map fun v => v.val).getD 0), a.frameKind.getD 0#8,
        (a.request.map AlertRequest.opcode).getD 0#8, 0x00#8]
    ++ toBE 5 ((a.request.map fun r => r.block.toNat).getD 0)
    ++ [0x00#8]
    ++ toBE 2 ((a.request.map AlertRequest.count).getD 0)
    ++ [0x00#8, 0x00#8]
    ++ toBE 4 ((a.generation.map BitVec.toNat).getD 0)

/-! ## Frames the part sends (13.1) -/

/-- Kind code of a frame the part sends. -/
def FrameBody.kindCode : FrameBody → Byte
  | .request .. => kindRequest
  | .proceed .. => kindProceed
  | .data .. => kindData
  | .status .. => kindStatus
  | .abort => kindAbort
  | .abortDone .. => kindAbortDone
  | .credit .. => kindCredit
  | .init .. => kindInit
  | .alert .. => kindAlert

/-- Outcome codes: 01h ABORTED, 02h NOT_FOUND. -/
def AbortOutcome.code : AbortOutcome → Byte
  | .aborted => 0x01#8
  | .notFound => 0x02#8

/-- Flags byte of a STATUS: bit 0 FROM_TARGET, bit 1 RESIDUE_ADJUSTED. -/
def statusFlags (fromTarget residueAdjusted : Bool) : Byte :=
  BitVec.ofNat 8 (bitIf fromTarget 1 + bitIf residueAdjusted 2)

/-- The bytes after the common header; every reserved byte is zero (R163). -/
def FrameBody.encode : FrameBody → List Byte
  | .request unit opcode direction length block count params =>
      [unit, opcode, direction.code, BitVec.ofNat 8 params.length] ++ toBE 3 length ++ [0x00#8]
        ++ toBE 5 block.toNat ++ toBE 2 count ++ [0x00#8] ++ params
  | .proceed window => toBE 3 window ++ [0x00#8]
  | .data offset payload => toBE 3 offset ++ [0x00#8] ++ toBE 2 payload.length ++ [0x00#8, 0x00#8] ++ payload
  | .status code fromTarget residueAdjusted residue detail =>
      [code, statusFlags fromTarget residueAdjusted, BitVec.ofNat 8 detail.length, 0x00#8]
        ++ toBE 3 residue ++ [0x00#8] ++ detail
  | .abort => [0x00#8, 0x00#8, 0x00#8, 0x00#8]
  | .abortDone outcome => [outcome.code, 0x00#8, 0x00#8, 0x00#8]
  | .credit increment => [BitVec.ofNat 8 increment, 0x00#8, 0x00#8, 0x00#8]
  | .init role segment initialCredit revision =>
      [role, BitVec.ofNat 8 (segment / 64), BitVec.ofNat 8 initialCredit, BitVec.ofNat 8 revision]
  | .alert sequence dropped records =>
      toBE 2 sequence.toNat ++ toBE 2 dropped ++ [BitVec.ofNat 8 records.length, 0x00#8, 0x00#8, 0x00#8]
        ++ records.flatMap Alert.encode

/-- The bytes of a frame the part sends (R163). -/
def Frame.encode (f : Frame) : List Byte :=
  [f.body.kindCode, BitVec.ofNat 8 (f.initiator.val * 16)] ++ toBE 2 f.tag.toNat ++ f.body.encode

/-! ## Policy records (13.2) -/

/-- Bit n of a byte. -/
def bitOf (b : Byte) (n : Nat) : Bool := b.getLsbD n

/-- Class codes of 13.2. -/
def classOf (b : Byte) : Option OpClass :=
  if b = 0x00#8 then some .undefined
  else if b = 0x01#8 then some .readBlocks
  else if b = 0x02#8 then some .writeBlocks
  else if b = 0x03#8 then some .control
  else if b = 0x04#8 then some .query
  else if b = 0x05#8 then some .forbidden
  else none

/-- Code of a class. -/
def OpClass.code : OpClass → Byte
  | .undefined => 0x00#8
  | .readBlocks => 0x01#8
  | .writeBlocks => 0x02#8
  | .control => 0x03#8
  | .query => 0x04#8
  | .forbidden => 0x05#8

/-- Hold mode codes of 13.2. -/
def holdModeOf (b : Byte) : Option HoldMode :=
  if b = 0x00#8 then some .noHold
  else if b = 0x01#8 then some .holdWrites
  else if b = 0x02#8 then some .holdAll
  else none

/-- Code of a hold mode. -/
def HoldMode.code : HoldMode → Byte
  | .noHold => 0x00#8
  | .holdWrites => 0x01#8
  | .holdAll => 0x02#8

/-- An initiator record of a WRITE_ENTRY body (13.2), by check 3 of R150: none when the check fails, some none for an absent record. -/
def readInitiatorRecord (b : List Byte) : Option (Option InitiatorRecord) :=
  if b.length ≠ 4 then none
  else if !bitOf (byteAt b 0) 0 then some none
  else
    let quota := (byteAt b 1).toNat
    let leaseTime := fieldAt b 2 2
    if (byteAt b 0).toNat / 8 = 0 ∧ 1 ≤ quota ∧ quota ≤ 16 ∧ 1 ≤ leaseTime ∧ leaseTime ≤ 600 then
      some (some { dataRight := bitOf (byteAt b 0) 1, mgmtRight := bitOf (byteAt b 0) 2, quota := quota, leaseTime := leaseTime })
    else none

/-- The bytes of an initiator record (13.2); an absent one is all zero (R24). -/
def InitiatorRecord.encode (r : InitiatorRecord) : List Byte :=
  [BitVec.ofNat 8 (1 + bitIf r.dataRight 2 + bitIf r.mgmtRight 4), BitVec.ofNat 8 r.quota] ++ toBE 2 r.leaseTime

/-- A view record of a WRITE_ENTRY body (13.2), by check 3 of R150. Mask, link code, block size code and base plus extent are not
judged. -/
def readView (b : List Byte) : Option (Option View) :=
  if b.length ≠ 24 then none
  else if !bitOf (byteAt b 0) 0 then some none
  else
    let extent := fieldAt b 13 6
    let holdWait := fieldAt b 20 2
    let timeout := fieldAt b 22 2
    match holdModeOf (byteAt b 1) with
    | none => none
    | some mode =>
      if (byteAt b 0).toNat / 32 = 0 ∧ byteAt b 19 = 0#8 ∧ byteAt b 4 ≠ 0xFF#8 ∧ byteAt b 6 ≠ 0xFF#8 ∧ 1 ≤ extent
          ∧ 1 ≤ holdWait ∧ holdWait ≤ 600 ∧ 1 ≤ timeout ∧ timeout ≤ 6000 then
        some (some {
          mask := BitVec.ofNat 16 (fieldAt b 2 2), virtualUnit := byteAt b 4, linkCode := byteAt b 5, unit := byteAt b 6,
          base := BitVec.ofNat 40 (fieldAt b 8 5), extent := extent, blockSizeCode := byteAt b 7,
          readRight := bitOf (byteAt b 0) 1, writeRight := bitOf (byteAt b 0) 2, controlRight := bitOf (byteAt b 0) 3,
          holdMode := mode, holdWait := holdWait, timeout := timeout, alertOnDeny := bitOf (byteAt b 0) 4 })
      else none

/-- The bytes of a view record (13.2). -/
def View.encode (v : View) : List Byte :=
  [BitVec.ofNat 8 (1 + bitIf v.readRight 2 + bitIf v.writeRight 4 + bitIf v.controlRight 8 + bitIf v.alertOnDeny 16), v.holdMode.code]
    ++ toBE 2 v.mask.toNat ++ [v.virtualUnit, v.linkCode, v.unit, v.blockSizeCode]
    ++ toBE 5 v.base.toNat ++ toBE 6 v.extent ++ [0x00#8] ++ toBE 2 v.holdWait ++ toBE 2 v.timeout

/-- A class record of a WRITE_ENTRY body (13.2), by check 3 of R150. -/
def readClassRecord (b : List Byte) : Option OpClass :=
  if b.length = 4 ∧ bytesZero b [1, 2, 3] then classOf (byteAt b 0) else none

/-- The selector of a reply record: 00h a byte value, 01h ANY with a zero value (13.2; log entry 18). -/
def readSelector (code value : Byte) : Option (Option Byte) :=
  if code = 0x00#8 then some (some value)
  else if code = 0x01#8 ∧ value = 0x00#8 then some none
  else none

/-- A reply record of a WRITE_ENTRY body (13.2), by check 3 of R150. The link code and the opcode's class are not judged. -/
def readReplyRecord (b : List Byte) : Option (Option ReplyRecord) :=
  let dlen := fieldAt b 8 2
  if b.length < 12 ∨ 256 < dlen ∨ b.length ≠ 12 + dlen then none
  else if !bitOf (byteAt b 0) 0 then some none
  else
    match readSelector (byteAt b 4) (byteAt b 5) with
    | none => none
    | some sel =>
      if (byteAt b 0).toNat / 2 = 0 ∧ bytesZero b [7, 10, 11] ∧ byteAt b 2 ≠ 0xFF#8 ∧ (byteAt b 6).toNat < 0xC0 then
        some (some { linkCode := byteAt b 1, unit := byteAt b 2, opcode := byteAt b 3, selector := sel, code := byteAt b 6, data := b.drop 12 })
      else none

/-- The bytes of a reply record (13.2). -/
def ReplyRecord.encode (r : ReplyRecord) : List Byte :=
  [0x01#8, r.linkCode, r.unit, r.opcode, if r.selector.isSome then 0x00#8 else 0x01#8, r.selector.getD 0#8, r.code, 0x00#8]
    ++ toBE 2 r.data.length ++ [0x00#8, 0x00#8] ++ r.data

/-- The answer of READ_ENTRY for a record: its bytes, or every byte zero when its validity bit is clear (13.2). -/
def encodeOr (zeros : Nat) (r : Option (List Byte)) : List Byte := r.getD (List.replicate zeros 0#8)

/-! ## Management requests (R164) -/

/-- The fifteen operations (R141). -/
inductive MgmtOp where
  | identify
  | claim
  | renew
  | releaseLease
  | readEntry
  | writeEntry
  | clearStaging
  | commit
  | readExchange
  | holdList
  | holdDecide
  | alertAck
  | endExchange
  | linkState
  | warmReset
  deriving DecidableEq, Repr

/-- Operation codes of R164. -/
def mgmtOpOf (b : Byte) : Option MgmtOp :=
  match b.toNat with
  | 0x01 => some .identify
  | 0x02 => some .claim
  | 0x03 => some .renew
  | 0x04 => some .releaseLease
  | 0x05 => some .readEntry
  | 0x06 => some .writeEntry
  | 0x07 => some .clearStaging
  | 0x08 => some .commit
  | 0x09 => some .readExchange
  | 0x0A => some .holdList
  | 0x0B => some .holdDecide
  | 0x0C => some .alertAck
  | 0x0D => some .endExchange
  | 0x0E => some .linkState
  | 0x0F => some .warmReset
  | _ => none

/-- Whether an operation is of the lease class (R141). -/
def MgmtOp.leaseClass : MgmtOp → Bool
  | .identify => false
  | .claim => false
  | .renew => true
  | .releaseLease => true
  | .readEntry => false
  | .writeEntry => true
  | .clearStaging => true
  | .commit => true
  | .readExchange => false
  | .holdList => false
  | .holdDecide => true
  | .alertAck => true
  | .endExchange => true
  | .linkState => false
  | .warmReset => true

/-- Argument bytes of an operation (R164): unused bytes zero, a bank and a decision of their codes. -/
def MgmtOp.argsOk (op : MgmtOp) (params : List Byte) : Bool :=
  match op with
  | .readEntry => byteAt params 3 == 0x00#8 || byteAt params 3 == 0x01#8
  | .writeEntry => bytesZero params [3]
  | .readExchange => bytesZero params [2, 3]
  | .holdDecide => byteAt params 3 == 0x01#8 || byteAt params 3 == 0x02#8
  | .alertAck => bytesZero params [3]
  | .endExchange => bytesZero params [3]
  | .identify => bytesZero params [1, 2, 3]
  | .claim => bytesZero params [1, 2, 3]
  | .renew => bytesZero params [1, 2, 3]
  | .releaseLease => bytesZero params [1, 2, 3]
  | .clearStaging => bytesZero params [1, 2, 3]
  | .commit => bytesZero params [1, 2, 3]
  | .holdList => bytesZero params [1, 2, 3]
  | .linkState => bytesZero params [1, 2, 3]
  | .warmReset => bytesZero params [1, 2, 3]

/-- The body an operation needs (R139 check 1, R164): a body for WRITE_ENTRY, none or one of transfer length 0 for every other. That a body of
transfer length 0 is no body for WRITE_ENTRY either, and fails here, is the model's choice (log entry 29). -/
def MgmtOp.bodyOk (op : MgmtOp) (direction : Direction) (length : Nat) : Bool :=
  if op = .writeEntry then decide (direction = .dirOut ∧ 0 < length)
  else !decide (direction = .dirOut ∧ 0 < length)

/-- Policy tables by the codes of R164. -/
inductive Table where
  | initiators
  | views
  | classes
  | replies
  deriving DecidableEq, Repr

/-- Table codes of R164. -/
def tableOf (b : Byte) : Option Table :=
  if b = 0x01#8 then some .initiators
  else if b = 0x02#8 then some .views
  else if b = 0x03#8 then some .classes
  else if b = 0x04#8 then some .replies
  else none

/-- Number of records of a table (R23). -/
def Table.size : Table → Nat
  | .initiators => 16
  | .views => 128
  | .classes => 256
  | .replies => 32

/-- Code of a table. -/
def Table.code : Table → Byte
  | .initiators => 0x01#8
  | .views => 0x02#8
  | .classes => 0x03#8
  | .replies => 0x04#8

end Sys2Proof.Machine
end

