-- ==== Sys2Proof/Machine/Flags.lean ====
section
/-! DEFINITION. The form checks of arrived frames (R46, R62, R81, R85, R128) and the flag bytes of answers. -/

namespace Sys2Proof.Machine

/-! ## Form checks -/

/-- A frame too short to hold its kind, initiator id and tag (R46, R62). -/
def isShort (f : List Byte) : Bool := f.length < 4

/-- Step 1 of the verdict (R46) on a REQUEST of at least four bytes. -/
def requestFormOk (f : List Byte) : Bool :=
  decide (requestHeader ≤ f.length) && decide (requestParamLength f ≤ 32) && decide (requestParamLength f % 4 = 0)
    && decide (f.length = requestHeader + requestParamLength f) && (directionOf (byteAt f 6)).isSome
    && headerReservedZero f && bytesZero f [11, 19]

/-- Residue of a refusal: the transfer length field when the frame holds it, else 0 (R46, R58). -/
def refusalResidue (f : List Byte) : Nat := if 11 ≤ f.length then requestLength f else 0

/-- Form check of a PROCEED (R62). -/
def proceedFormOk (f : List Byte) : Bool :=
  decide (8 ≤ f.length) && decide (1 ≤ proceedWindow f) && decide (proceedWindow f ≤ 65536)
    && headerReservedZero f && bytesZero f [7]

/-- Form check of a DATA (R62). -/
def dataFormOk (f : List Byte) : Bool :=
  decide (12 ≤ f.length) && decide (1 ≤ dataLength f) && decide (dataLength f ≤ 512)
    && decide (f.length = 12 + dataLength f) && headerReservedZero f && bytesZero f [7, 10, 11]

/-- Form check of a STATUS (R62). -/
def statusFormOk (f : List Byte) : Bool :=
  decide (12 ≤ f.length) && decide (statusDetailLength f ≤ 16) && decide (f.length = 12 + statusDetailLength f)
    && headerReservedZero f && bytesZero f [7, 11] && decide ((byteAt f 5).toNat / 4 = 0)

/-- Form check of an ABORT from port I (R85). -/
def abortFormOk (f : List Byte) : Bool :=
  decide (f.length = 8) && headerReservedZero f && bytesZero f [4, 5, 6, 7]

/-- Form check of an ABORT_DONE that reaches an entry in ABORTING (R81). -/
def abortDoneFormOk (f : List Byte) : Bool :=
  decide (f.length = 8) && headerReservedZero f && bytesZero f [5, 6, 7]
    && (byteAt f 4 == AbortOutcome.aborted.code || byteAt f 4 == AbortOutcome.notFound.code)

/-- The verdict on a peer's INIT (R128): none when it is accepted, else the detail of the entry into FAILED. `own` is the role of
the bridge's own side. An INIT that has the own role and another fault is SAME_ROLE (log entry 17). -/
def initFault (own : Byte) (f : List Byte) : Option LinkDetail :=
  if f.length ≠ 8 then some .badInit
  else if initRole f = own then some .sameRole
  else if (initRole f ≠ roleInitiatorSide ∧ initRole f ≠ roleTargetSide) ∨ initSegmentUnits f < 1 ∨ 8 < initSegmentUnits f
      ∨ headerReservedZero f = false then some .badInit
  else none

/-! ## Flag bytes -/

/-- Flags of the entry picture (13.2, byte 3): closed, command sent, STATUS parked, routing present, bytes proceeded present. -/
def pictureFlags (x : Exchange) : Byte :=
  BitVec.ofNat 8 (bitIf x.closed 1 + bitIf ((x.routing.map Routing.commandSent).getD false) 2 + bitIf x.parked.isSome 4
    + bitIf x.routing.isSome 8 + bitIf x.proceeded.isSome 16)

/-- The residue the bridge reports: transfer length minus bytes moved (R18, R68). -/
def Exchange.residue (x : Exchange) : Nat := x.length - x.moved

/-- The bound of bytes moved (R61): bytes proceeded for direction OUT, the transfer length otherwise. -/
def Exchange.moveBound (x : Exchange) : Nat := x.proceeded.getD x.length

/-- RESIDUE_ADJUSTED of a forwarded target STATUS (R68): the target's residue differs from the bridge's. -/
def residueAdjusted (x : Exchange) (targetResidue : Nat) : Bool := decide (targetResidue ≠ x.residue)

end Sys2Proof.Machine
end

