-- ==== Sys2Proof/Machine/Ops.lean ====
section
/-! DEFINITION. The named operations over the part's state: ports, cells, egress queues, alerts, entries, closing and freeing, aborts, the
consumers of arrived frames, credit grants, batch formation, and what stands around every event. -/

namespace Sys2Proof.Machine

/-! ## Ports -/

/-- The port of a target link. -/
def targetPort : Target → Port
  | .t0 => .t0
  | .t1 => .t1

/-- The next port in the rotation I, T0, T1, I (R116). -/
def nextPort : Port → Port
  | .i => .t0
  | .t0 => .t1
  | .t1 => .i

/-- Ingress credit limit of a port (R113). -/
def creditLimit : Port → Nat
  | .i => Config.creditLimitI
  | .t0 => Config.creditLimitT
  | .t1 => Config.creditLimitT

/-- The bridge's own side of a link (R126): TARGET_SIDE on port I, INITIATOR_SIDE on T0 and T1. -/
def ownRole : Port → Byte
  | .i => roleTargetSide
  | .t0 => roleInitiatorSide
  | .t1 => roleInitiatorSide

/-- The record of a port. -/
def State.port (s : State) : Port → PortRecord
  | .i => s.portI
  | .t0 => s.portT0
  | .t1 => s.portT1

/-- The state with one port's record replaced. -/
def State.setPort (s : State) (p : Port) (r : PortRecord) : State :=
  match p with
  | .i => { s with portI := r }
  | .t0 => { s with portT0 := r }
  | .t1 => { s with portT1 := r }

/-- A port is UP (R126). -/
def State.isUp (s : State) (p : Port) : Bool := (s.port p).state == .up

/-- Outstanding ingress credit: announced plus owed (R113). -/
def PortRecord.outstanding (r : PortRecord) : Nat := r.announced + r.owed

/-- Cells reserved for a port: nine for each credit outstanding or offered (R113). -/
def PortRecord.reservedCells (r : PortRecord) : Nat := Config.creditCells * (r.offered + r.announced + r.owed)

/-- M, the maximum segment payload of port I's peer (R105, R140). The default is read only while port I is not UP (log entry 24). -/
def State.segment (s : State) (p : Port) : Nat := (s.port p).peerSegment.getD Config.ownSegment

/-- A deadline D is reached when C - D modulo 2^32 is less than 2^31 (R1). -/
def reached (clock due : Clock) : Bool := decide ((clock - due).toNat < 2 ^ 31)

/-- The clock value plus a number of ms (R1). -/
def State.after (s : State) (ms : Nat) : Clock := s.clock + BitVec.ofNat 32 ms

/-! ## Cells (R111, R112) -/

/-- n cells move to free. -/
def State.release (s : State) (n : Nat) : State := { s with freeCells := s.freeCells + n }

/-- n free cells are taken. -/
def State.takeCells (s : State) (n : Nat) : State := { s with freeCells := s.freeCells - n }

/-- An arrived frame is discarded: its chain moves from stored to free (R112). -/
def State.discard (s : State) (f : List Byte) : State := s.release (cellsFor f.length)

/-! ## Egress queues (R120) -/

/-- Cells a descriptor holds (R120). -/
def Descriptor.cells (d : Descriptor) : Nat :=
  match d.content with
  | .stored _ n => n
  | .run _ payload => cellsFor payload.length
  | .made _ => 0
  | .alert => 0

/-- Cells that a list of descriptors holds. -/
def queueCells (ds : List Descriptor) : Nat := (ds.map Descriptor.cells).sum

/-- A descriptor joins the tail of a port's egress queue. On a port that is not UP it is discarded as it is queued, and its cells are
freed (R126). -/
def State.enqueue (s : State) (p : Port) (d : Descriptor) : State :=
  if s.isUp p then s.setPort p { s.port p with egress := (s.port p).egress ++ [d] } else s.release d.cells

/-- The descriptors that `gone` selects leave a port's egress queue untransmitted, and their cells are freed (R120, R124). -/
def State.withdraw (s : State) (p : Port) (gone : Descriptor → Bool) : State :=
  (s.setPort p { s.port p with egress := (s.port p).egress.filter fun d => !gone d }).release
    (queueCells ((s.port p).egress.filter gone))

/-- Every descriptor of a port's queue is purged (R124). -/
def State.purge (s : State) (p : Port) : State := s.withdraw p fun _ => true

/-- A descriptor holding a rewritten REQUEST. -/
def Descriptor.isRequest (d : Descriptor) : Bool :=
  match d.content with
  | .stored { body := .request .., .. } _ => true
  | _ => false

/-- A DATA descriptor: forwarded DATA, or a run of a snapshot or answer (R74, R106). -/
def Descriptor.isData (d : Descriptor) : Bool :=
  match d.content with
  | .stored { body := .data .., .. } _ => true
  | .run .. => true
  | _ => false

/-- The ALERT descriptor (R120). -/
def Descriptor.isAlert (d : Descriptor) : Bool := d.content == .alert

/-- A bridge-made ABORT (R80). -/
def Descriptor.isAbort (d : Descriptor) : Bool :=
  match d.content with
  | .made { body := .abort, .. } => true
  | _ => false

/-! ## Alerts (R157, R158) -/

/-- An alert of a cause at the clock value of its event. -/
def State.alertOf (s : State) (c : AlertCause) : Alert := { cause := c, time := s.clock }

/-- An alert joins the tail of the queue, or raises the dropped count when the queue holds 32 records (R158). -/
def State.post (s : State) (a : Alert) : State :=
  if s.alerts.length < Config.alertRecords then { s with alerts := s.alerts ++ [a] }
  else { s with dropped := min Config.droppedMax (s.dropped + 1) }

/-- A LINK_CHANGE alert (R131). -/
def State.postLink (s : State) (p : Port) (d : LinkDetail) : State :=
  s.post { s.alertOf (.linkChange d) with link := some p }

/-- A STALE_FRAME alert that names the link alone (R8, R46, R62, R114). -/
def State.postStaleLink (s : State) (p : Port) (d : StaleDetail) : State :=
  s.post { s.alertOf (.staleFrame d) with link := some p }

/-- A CREDIT_OVERRUN alert (R115, R119). -/
def State.postOverrun (s : State) (p : Port) (d : OverrunDetail) : State :=
  s.post { s.alertOf (.creditOverrun d) with link := some p }

/-- The fields an alert takes from an exchange: entry, incarnation, initiator, tag, and view where the exchange has one. -/
def State.alertOn (s : State) (c : AlertCause) (r : EntryRef) (x : Exchange) : Alert :=
  { s.alertOf c with entry := some r, initiator := some x.initiator, tag := some x.tag, view := x.view }

/-- The target link of an exchange as an alert's link. -/
def Exchange.linkPort (x : Exchange) : Option Port := x.routing.map fun g => targetPort g.link

/-! ## Entries (R9, R12, R19) -/

/-- One entry of the exchange table. -/
def State.entry (s : State) (i : EntryIndex) : Entry := s.entries[i.val]

/-- The table with one entry replaced. -/
def State.setEntry (s : State) (i : EntryIndex) (e : Entry) : State := { s with entries := s.entries.set i e }

/-- An entry in use keeps its incarnation and takes a new record of its exchange. -/
def State.setExchange (s : State) (i : EntryIndex) (x : Exchange) : State :=
  s.setEntry i { s.entry i with exchange := some x }

/-- The entry index with the entry's current incarnation. -/
def State.refOf (s : State) (i : EntryIndex) : EntryRef := { index := i, inc := (s.entry i).inc }

/-- The exchange of an entry at a recorded incarnation; none when the entry is FREE or holds another incarnation. -/
def State.exchangeAt (s : State) (r : EntryRef) : Option Exchange :=
  if (s.entry r.index).inc = r.inc then (s.entry r.index).exchange else none

/-- The downstream tag: incarnation times 64 plus entry index (R12). -/
def downstreamTag (r : EntryRef) : Tag := BitVec.ofNat 16 (r.inc.val * 64 + r.index.val)

/-- The entry indexes, lowest first. -/
def allEntries : List EntryIndex := List.finRange 64

/-- The lowest-numbered FREE entry (R11). -/
def State.lowestFree (s : State) : Option EntryIndex := allEntries.find? fun i => (s.entry i).exchange.isNone

/-- In-use count of an initiator (R20). -/
def State.inUseCount (s : State) (n : InitiatorId) : Nat :=
  allEntries.countP fun i => (s.entry i).exchange.any fun x => x.initiator == n

/-- The open entry that holds a pair of initiator id and tag (R15, R48). -/
def State.openEntry (s : State) (n : InitiatorId) (t : Tag) : Option EntryIndex :=
  allEntries.find? fun i => (s.entry i).exchange.any fun x => !x.closed && x.initiator == n && x.tag == t

/-- Cells the entry itself holds: its stored request while attached, its body chain, its parked STATUS, and of its snapshot the bookkeeping
cell with the data cells no descriptor holds (R109). Answer runs and a started snapshot's data cells are held by their
descriptors, a queued REQUEST by its own. -/
def Exchange.ownCells (x : Exchange) : Nat :=
  (match x.storedRequest with
    | some (.inCells f) => cellsFor f.length
    | _ => 0)
  + (x.bodyFrames.map fun f => cellsFor f.length).sum
  + (match x.parked with
    | some k => k.cells
    | none => 0)
  + (match x.snapshot with
    | some n => if n.started then 1 else 1 + cellsFor n.data.length
    | none => 0)

/-- An entry is freed (R19): FREE, incarnation kept, every other field absent, its cells released, its place gone from the hold queue. -/
def State.freeEntry (s : State) (i : EntryIndex) : State :=
  match (s.entry i).exchange with
  | none => s
  | some x =>
    let freed := s.setEntry i { s.entry i with exchange := none }
    { freed.release x.ownCells with holdQueue := s.holdQueue.filter fun h => h.entry.index ≠ i }

/-- A descriptor of an exchange records its entry and incarnation (R14). -/
def State.ofEntry (s : State) (i : EntryIndex) (c : DescriptorContent) : Descriptor :=
  { content := c, entry := some (s.refOf i) }

/-- A STATUS the bridge makes for an exchange (R6, R18). -/
def statusFrame (x : Exchange) (code : Byte) : Frame :=
  { initiator := x.initiator, tag := x.tag, body := .status code false false x.residue [] }

/-- An ABORT_DONE toward the initiator of an exchange (R14). -/
def abortDoneFrame (x : Exchange) : Frame :=
  { initiator := x.initiator, tag := x.tag, body := .abortDone .aborted }

/-- The ABORT toward the target of an exchange (R14, R79). -/
def abortFrame (r : EntryRef) : Frame := { initiator := 0, tag := downstreamTag r, body := .abort }

/-- A bridge-made closing STATUS is queued on port I (R17, R18, R121). -/
def State.queueStatus (s : State) (i : EntryIndex) (x : Exchange) (code : Byte) : State :=
  s.enqueue .i (s.ofEntry i (.made (statusFrame x code)))

/-- The exchange closes with a bridge-made STATUS and its entry is freed in the same event (R17, R19). -/
def State.closeAndFree (s : State) (i : EntryIndex) (x : Exchange) (code : Byte) : State :=
  (s.queueStatus i x code).freeEntry i

/-- The REQUEST descriptor of an entry is withdrawn from its target's egress queue (R78, R88). -/
def State.withdrawRequest (s : State) (i : EntryIndex) (g : Routing) : State :=
  let r := s.refOf i
  s.withdraw (targetPort g.link) fun d => d.isRequest && d.entry == some r

/-- A DATA exchange whose command has been sent enters ABORTING, and an ABORT is queued toward its target (R70, R79, R80, R87, R90). -/
def State.enterAborting (s : State) (i : EntryIndex) (x : Exchange) (g : Routing) (o : AbortOrigin) (closed : Bool) : State :=
  let aborting := { x with state := .aborting, origin := some o, closed := closed,
                           deadline := some { kind := .grace, due := s.after Config.graceMs } }
  (s.setExchange i aborting).enqueue (targetPort g.link) (s.ofEntry i (.made (abortFrame (s.refOf i))))

/-- An exchange whose target may still act: its command has been sent and the target has not answered (R19). -/
def Exchange.targetActive (x : Exchange) : Option Routing :=
  match x.routing with
  | some g => if g.commandSent && x.parked.isNone then some g else none
  | none => none

/-- An exchange no target serves, or that its target has not seen, leaves the bridge: its REQUEST, if it waits in the target's queue, is
withdrawn (R70, R78, R86, R90, R133). -/
def State.withdrawUnseen (s : State) (i : EntryIndex) (x : Exchange) : State :=
  match x.routing with
  | some g => s.withdrawRequest i g
  | none => s

/-- The bridge ends an open exchange with a STATUS of its own (R70, R71, R78, R79, R90): with an ABORT toward the target and grace where
the target may still act, else with the entry freed in the same event. -/
def State.endWithStatus (s : State) (i : EntryIndex) (x : Exchange) (code : Byte) (o : AbortOrigin) : State :=
  match x.targetActive with
  | some g => (s.enterAborting i x g o true).queueStatus i x code
  | none => (s.withdrawUnseen i x).closeAndFree i x code

/-! ## Result codes of the bridge (3.3, R140) -/

def codeOk : Byte := 0x00#8
def codeMalformed : Byte := 0xC1#8
def codeNotConfigured : Byte := 0xC2#8
def codeUnknownInitiator : Byte := 0xC3#8
def codeTagInUse : Byte := 0xC4#8
def codeQuotaReached : Byte := 0xC5#8
def codeLinkLost : Byte := 0xC6#8
def codeNoEntry : Byte := 0xC7#8
def codeNoView : Byte := 0xC8#8
def codeUnknownOp : Byte := 0xC9#8
def codeForbiddenOp : Byte := 0xCA#8
def codeWrongDirection : Byte := 0xCB#8
def codeDenied : Byte := 0xCC#8
def codeOutOfRange : Byte := 0xCD#8
def codeLengthMismatch : Byte := 0xCE#8
def codeHoldFull : Byte := 0xCF#8
def codeLinkDown : Byte := 0xD0#8
def codeHoldRejected : Byte := 0xD1#8
def codeHoldExpired : Byte := 0xD2#8
def codeTimedOut : Byte := 0xD3#8
def codePhaseError : Byte := 0xD4#8
def codeBridgeReset : Byte := 0xD6#8
def codeEndedByManagement : Byte := 0xD7#8
def codeNotOwner : Byte := 0xE0#8
def codeLeaseHeld : Byte := 0xE1#8
def codeBadIndex : Byte := 0xE2#8
def codeStagingBusy : Byte := 0xE3#8
def codeValidationFailed : Byte := 0xE4#8
def codeTooLate : Byte := 0xE5#8
def codeStaleAck : Byte := 0xE6#8
def codeNotPermitted : Byte := 0xE7#8
def codeBadBody : Byte := 0xE8#8

/-! ## Phase violations (R70, R71) -/

/-- The PHASE_VIOLATION alert: the target link is given for kind DATA alone (R70, R71, R137). -/
def State.violationAlert (s : State) (i : EntryIndex) (x : Exchange) (d : ViolationDetail) : Alert :=
  { s.alertOn (.phaseViolation d) (s.refOf i) x with link := x.linkPort }

/-- A phase violation on a matched exchange: the frame has been discarded, the exchange ends with D4h and the alert is posted. -/
def State.phaseViolation (s : State) (i : EntryIndex) (x : Exchange) (d : ViolationDetail) : State :=
  (s.endWithStatus i x codePhaseError .phase).post (s.violationAlert i x d)

/-! ## Issue toward a target (R57, R97) -/

/-- The rewritten REQUEST: initiator id 0, downstream tag, physical unit, recorded block address; the rest unchanged (R4). -/
def rewrittenRequest (r : EntryRef) (g : Routing) (q : Request) : Frame :=
  { initiator := 0, tag := downstreamTag r,
    body := .request g.unit q.opcode q.direction q.length g.block q.count q.params }

/-- The stored request is rewritten in its own cells and its descriptor joins the tail of the target's egress queue. -/
def State.queueRequest (s : State) (i : EntryIndex) (g : Routing) (f : List Byte) : State :=
  s.enqueue (targetPort g.link)
    (s.ofEntry i (.stored (rewrittenRequest (s.refOf i) g (readRequest f)) (cellsFor f.length)))

/-! ## Lease end (R142, R162) -/

/-- The end of a lease: owner absent, delivery IDLE with the batch returned to the head of the queue, its descriptor withdrawn, its
carried dropped count added back, and LEASE_ENDED posted. -/
def State.endLease (s : State) (why : LeaseEnd) : State :=
  match s.lease with
  | none => s
  | some l =>
    let back := { s with lease := none, batch := none,
                         dropped := min Config.droppedMax (s.dropped + (s.batch.map Batch.carried).getD 0) }
    (back.withdraw .i Descriptor.isAlert).post { s.alertOf (.leaseEnded why) with initiator := some l.owner }

/-! ## Expiries (R1) -/

/-- The exchange of an entry whose timer holds a deadline of a kind that the clock has reached (R1, R9). -/
def State.expired (s : State) (i : EntryIndex) (k : DeadlineKind) : Option Exchange :=
  match (s.entry i).exchange with
  | none => none
  | some x =>
    match x.deadline with
    | some d => if d.kind = k ∧ reached s.clock d.due = true then some x else none
    | none => none

/-! ## Frames that wait for their consumer (R8) -/

/-- The consumers of arrived frames. -/
inductive Consumer where
  | sorter
  | admission
  | exchangeControl
  deriving DecidableEq, Repr

/-- The consumer of a frame by its kind and the link it arrived on (R8). The sorter itself discards a frame of unknown kind, and a
frame of no byte at all (log entry 8). -/
def consumerOf (p : Port) (f : List Byte) : Consumer :=
  if f.isEmpty || decide ((byteAt f 0).toNat < 1) || decide (9 < (byteAt f 0).toNat) then .sorter
  else if byteAt f 0 = kindRequest ∧ p = .i then .admission
  else .exchangeControl

/-- The first frame for a consumer, with the frames that stay. A frame behind one the sorter has still to discard has not been passed
on: the sorter passes the frames of a link in their order of arrival (R8; log entry 7). -/
def firstFor (c : Consumer) (p : Port) : List (List Byte) → Option (List Byte × List (List Byte))
  | [] => none
  | f :: fs =>
    if consumerOf p f = c then some (f, fs)
    else if consumerOf p f = .sorter then none
    else (firstFor c p fs).map fun (g, rest) => (g, f :: rest)

/-- The frame that a consumer takes next from a link, and the state with the frame out of the link's arrivals (its cells still stored). -/
def State.takeNext (s : State) (c : Consumer) (p : Port) : Option (List Byte × State) :=
  (firstFor c p (s.port p).arrived).map fun (f, rest) => (f, s.setPort p { s.port p with arrived := rest })

/-- The frame exchange control takes next from a link, where it is of the kind a command names. -/
def State.takeKind (s : State) (p : Port) (kind : Byte) : Option (List Byte × State) :=
  match s.takeNext .exchangeControl p with
  | some (f, s') => if byteAt f 0 = kind then some (f, s') else none
  | none => none

/-! ## Credit grants (R116) -/

/-- A port eligible for a grant: UP, with outstanding ingress credit below its limit. -/
def State.eligible (s : State) (p : Port) : Bool :=
  s.isUp p && decide ((s.port p).outstanding < creditLimit p)

/-- The port the next grant goes to: the first eligible one in rotation. -/
def State.grantee (s : State) : Option Port :=
  [s.rotation, nextPort s.rotation, nextPort (nextPort s.rotation)].find? s.eligible

/-- One grant, while at least nine cells are free and a port is eligible. -/
def State.grantOne (s : State) : Option State :=
  if s.freeCells < Config.creditCells then none
  else
    match s.grantee with
    | none => none
    | some p =>
      let granted := s.setPort p { s.port p with owed := (s.port p).owed + 1 }
      some { granted.takeCells Config.creditCells with rotation := nextPort p }

/-- Grants, one credit to a grant, until none can be made. -/
def State.grantUpTo : Nat → State → State
  | 0, s => s
  | n + 1, s =>
    match s.grantOne with
    | some s' => s'.grantUpTo n
    | none => s

/-- The pool goes on granting until fewer than nine cells are free or every UP port is at its limit. The three limits sum to 64, so 64
grants suffice. -/
def State.grant (s : State) : State :=
  s.grantUpTo (Config.creditLimitI + Config.creditLimitT + Config.creditLimitT)

/-! ## Batch formation (R159) -/

/-- A batch is formed at any event that leaves delivery IDLE with an owner present and the queue not empty. -/
def State.formBatch (s : State) : State :=
  if s.batch.isNone ∧ s.lease.isSome ∧ s.alerts ≠ [] then
    let seq := s.sequence + 1#16
    let formed := { s with
      sequence := seq,
      batch := some { size := min Config.batchRecords s.alerts.length, sequence := seq, carried := s.dropped,
                      resend := none, sentOnce := false },
      dropped := 0 }
    formed.enqueue .i { content := .alert }
  else s

/-! ## Around every event -/

/-- What every event that can free cells, bring a port UP or leave alerts is followed by: the credit grants of R116 and the batch of R159
(log entries 10 and 11). -/
def State.settle (s : State) : State := s.grant.formBatch

/-- An event of the part. While the reset pin is held low nothing happens (R165); an event that cannot occur leaves the state as it is
(log entry 1). -/
def event (f : State → Option State) (s : State) : Host.Outcome State Fault Refusal :=
  .next (if s.resetPin then s else
    match f s with
    | some t => t.settle
    | none => s)

/-- An event that frees no cell, brings no port UP, and touches neither alerts nor lease. -/
def plainEvent (f : State → Option State) (s : State) : Host.Outcome State Fault Refusal :=
  .next (if s.resetPin then s else (f s).getD s)

end Sys2Proof.Machine
end

