-- ==== Sys2Proof/Machine/Tables.lean ====
section
/-! DEFINITION. Reading the policy tables: the active and staging banks, bootstrap, view and reply matching (chapter 2). -/

namespace Sys2Proof.Machine

/-- The bank of a name. -/
def State.bank (s : State) : BankName → Bank
  | .a => s.bankA
  | .b => s.bankB

/-- The other bank. -/
def otherBank : BankName → BankName
  | .a => .b
  | .b => .a

/-- The active bank (R23, R25). -/
def State.activeBank (s : State) : Bank := s.bank s.active

/-- The staging bank: the other one (R149). -/
def State.stagingBank (s : State) : Bank := s.bank (otherBank s.active)

/-- The staging bank is replaced; the active bank is not touched (R149). -/
def State.setStaging (s : State) (b : Bank) : State :=
  match s.active with
  | .a => { s with bankB := b }
  | .b => { s with bankA := b }

/-- No initiator of the bank is present: bootstrap, when the bank is active (R41). -/
def Bank.noInitiator (b : Bank) : Bool := (List.finRange 16).all fun n => (b.initiators.get n).isNone

/-- The part is in bootstrap (R41). -/
def State.bootstrap (s : State) : Bool := s.activeBank.noInitiator

/-- The record of an initiator in the active bank (R27). -/
def State.initiatorRecord (s : State) (n : InitiatorId) : Option InitiatorRecord := s.activeBank.initiators.get n

/-- The quota that applies to an initiator: its record's, or 2 in bootstrap (R42, R49). An absent record outside bootstrap has been
refused before the quota is read; none is then read as 0. -/
def State.quotaOf (s : State) (n : InitiatorId) : Nat :=
  if s.bootstrap then Config.bootstrapQuota else ((s.initiatorRecord n).map InitiatorRecord.quota).getD 0

/-- The MGMT right of an initiator outside bootstrap (R29). -/
def State.hasMgmtRight (s : State) (n : InitiatorId) : Bool := (s.initiatorRecord n).any InitiatorRecord.mgmtRight

/-- The lease time of an initiator in ms: 30 s in bootstrap, else its record's (R29, R42). -/
def State.leaseMs (s : State) (n : InitiatorId) : Nat :=
  if s.bootstrap then Config.bootstrapLeaseMs
  else ((s.initiatorRecord n).map InitiatorRecord.leaseTime).getD 0 * 1000

/-- A view serves an initiator on a virtual unit (R31). -/
def View.serves (v : View) (n : InitiatorId) (unit : Byte) : Bool := v.mask.getLsbD n.val && v.virtualUnit == unit

/-- View matching: the valid matching record of the lowest index (R31). -/
def Bank.matchView (b : Bank) (n : InitiatorId) (unit : Byte) : Option (ViewIndex × View) :=
  (List.finRange 128).findSome? fun k =>
    match b.views.get k with
    | some v => if v.serves n unit then some (k, v) else none
    | none => none

/-- Target link of a link code: 00h T0, 01h T1. A bank made active holds no other code in a valid record (R152; log entry 24). -/
def linkOfCode (c : Byte) : Target := if c = 0x00#8 then .t0 else .t1

/-- Target link of a view (R30). -/
def View.link (v : View) : Target := linkOfCode v.linkCode

/-- Block size of a view: code 00h is 512, 01h is 4096 (R30; log entry 24). -/
def View.blockSize (v : View) : Nat := if v.blockSizeCode = 0x00#8 then 512 else 4096

/-- The class of an opcode in a bank (R37). -/
def Bank.classOf (b : Bank) (opcode : Byte) : OpClass := b.classes.get opcode.toFin

/-- The right a class needs (R34, R52). -/
def View.grants (v : View) : OpClass → Bool
  | .undefined => false
  | .readBlocks => v.readRight
  | .writeBlocks => v.writeRight
  | .control => v.controlRight
  | .query => v.readRight
  | .forbidden => false

/-- Directions a class permits (R37, R51). -/
def OpClass.permits (c : OpClass) (d : Direction) : Bool :=
  match c with
  | .undefined => false
  | .readBlocks => d == .dirIn
  | .writeBlocks => d == .dirOut
  | .control => true
  | .query => d == .dirIn || d == .noData
  | .forbidden => false

/-- A class the window and length checks apply to, and whose block address is translated (R33, R37). -/
def OpClass.windowed (c : OpClass) : Bool := c == .readBlocks || c == .writeBlocks

/-- Whether a view holds requests of a class (R35, R54). -/
def View.holds (v : View) (c : OpClass) : Bool :=
  match v.holdMode with
  | .noHold => false
  | .holdWrites => c == .writeBlocks
  | .holdAll => true

/-- A reply record's selector matches a request's parameter block (R40): ANY, or equal to byte 0 of a block that is present. -/
def selectorMatches (sel : Option Byte) (params : List Byte) : Bool :=
  match sel with
  | none => true
  | some b => params.head? == some b

/-- A reply record matches a request through its view (R40). -/
def ReplyRecord.matches (r : ReplyRecord) (v : View) (opcode : Byte) (params : List Byte) : Bool :=
  linkOfCode r.linkCode == v.link && r.unit == v.unit && r.opcode == opcode && selectorMatches r.selector params

/-- Reply matching: the valid matching record of the lowest index (R40). -/
def Bank.matchReply (b : Bank) (v : View) (opcode : Byte) (params : List Byte) : Option (ReplyIndex × ReplyRecord) :=
  (List.finRange 32).findSome? fun k =>
    match b.replies.get k with
    | some r => if r.matches v opcode params then some (k, r) else none
    | none => none

end Sys2Proof.Machine
end

