-- ==== Sys2Proof/Machine/Performance.lean ====
section
/-! DEFINITION. What every performance of a management operation shares (R139, R140): its result, the answer runs, the closing STATUS. -/

namespace Sys2Proof.Machine

/-- What follows the closing STATUS of a performance: nothing, the warm-reset-pending record (R147), or the revocation of the lease (R154). -/
inductive AfterStatus where
  | nothing
  | markWarmReset
  | revokeLease
  deriving DecidableEq, Repr

/-- The result of carrying an operation out: the state, the answer's bytes, the closing code. -/
structure OpResult where
  state  : State
  answer : List Byte
  code   : Byte
  after  : AfterStatus := .nothing

/-- An operation answered with a code and no data, the state unchanged. -/
def refuseOp (s : State) (code : Byte) : OpResult := { state := s, answer := [], code := code }

/-- The management closing STATUS is queued, the exchange closes and the entry is freed (R140). -/
def State.closeManagement (s : State) (i : EntryIndex) (x : Exchange) (code : Byte) (mark : Bool) : State :=
  (s.enqueue .i { s.ofEntry i (.made (statusFrame x code)) with warmMark := mark }).freeEntry i

/-- DATA descriptors of the runs of a chain, in order of offset (R105, R140). -/
def runDescriptors (r : EntryRef) : Nat → List (List Byte) → List Descriptor
  | _, [] => []
  | off, b :: bs => { content := .run off b, entry := some r } :: runDescriptors r (off + b.length) bs

/-- The runs join the tail of port I's egress queue, each in its turn. -/
def State.enqueueAll (s : State) (p : Port) : List Descriptor → State
  | [] => s
  | d :: ds => (s.enqueue p d).enqueueAll p ds

/-- How much of an answer is written (R140): the least of its length, the transfer length for direction IN (0 otherwise), and 64 bytes for
each free cell. -/
def answerAmount (s : State) (x : Exchange) (answer : List Byte) : Nat :=
  min answer.length (min (if x.direction = .dirIn then x.length else 0) (Config.cellBytes * s.freeCells))

/-- A performance concludes (R139, R140): the answer chain is written into free cells, the stored request and the body chain are released,
the runs are queued, and the closing STATUS follows at once when no run is queued. -/
def State.conclude (i : EntryIndex) (x : Exchange) (r : OpResult) : State :=
  let amount := answerAmount r.state x r.answer
  let bare := { x with storedRequest := none, bodyFrames := [] }
  let written := (r.state.takeCells (cellsFor amount)).release (x.ownCells - bare.ownCells)
  if amount = 0 then
    let mark := r.after == .markWarmReset && !written.warmPending
    let closed := (written.setExchange i bare).closeManagement i bare r.code mark
    match r.after with
    | .nothing => closed
    | .markWarmReset => { closed with warmPending := true }
    | .revokeLease => closed.endLease .revoked
  else
    let runs := runsOf (r.state.segment .i) amount (r.answer.take amount)
    let waiting := { bare with answer := some { code := r.code, length := amount }, dataWaiting := bare.dataWaiting + runs.length }
    (written.setExchange i waiting).enqueueAll .i (runDescriptors (r.state.refOf i) 0 runs)

end Sys2Proof.Machine
end

