-- ==== Sys2Proof/Machine/Sessions.lean ====
section
/-! DEFINITION. The session and reading operations of chapter 10: IDENTIFY, CLAIM, RENEW, RELEASE_LEASE, READ_ENTRY, READ_EXCHANGE, LINK_STATE,
WARM_RESET. -/

namespace Sys2Proof.Machine

/-- IDENTIFY's answer (R146; layout in 13.2). -/
def identifyAnswer (s : State) : List Byte :=
  [0x04#8, 0x12#8, 0x01#8, BitVec.ofNat 8 (bitIf s.bootstrap 1), 16#8, 128#8, 0x01#8, 0x00#8, 32#8, 0x00#8, 0x00#8, 0x00#8]
    ++ toBE 4 s.generation.toNat

/-- IDENTIFY (R146). -/
def opIdentify (s : State) : OpResult := { state := s, answer := identifyAnswer s, code := codeOk }

/-- CLAIM's answer (R143; layout in 13.2): owner, staging-dirty, next alert sequence, lease deadline, generation. -/
def claimAnswer (s : State) (l : Lease) : List Byte :=
  [initiatorByte l.owner, BitVec.ofNat 8 (bitIf s.dirty 1)] ++ toBE 2 (s.sequence + 1#16).toNat
    ++ toBE 4 l.deadline.toNat ++ toBE 4 s.generation.toNat

/-- The lease a caller takes or renews now (R143, R144). -/
def State.newLease (s : State) (caller : InitiatorId) : Lease :=
  { owner := caller, deadline := s.after (s.leaseMs caller) }

/-- CLAIM (R143): the lease when it is free or the caller's own, E1h with the owner's id otherwise. -/
def opClaim (s : State) (caller : InitiatorId) : OpResult :=
  match s.lease with
  | some l =>
    if l.owner = caller then
      { state := { s with lease := some (s.newLease caller) }, answer := claimAnswer s (s.newLease caller), code := codeOk }
    else { state := s, answer := [initiatorByte l.owner], code := codeLeaseHeld }
  | none => { state := { s with lease := some (s.newLease caller) }, answer := claimAnswer s (s.newLease caller), code := codeOk }

/-- RENEW (R144). -/
def opRenew (s : State) (caller : InitiatorId) : OpResult :=
  { state := { s with lease := some (s.newLease caller) }, answer := toBE 4 (s.newLease caller).deadline.toNat, code := codeOk }

/-- RELEASE_LEASE (R144): the lease has ended before its STATUS is queued. -/
def opReleaseLease (s : State) : OpResult := { state := s.endLease .released, answer := [], code := codeOk }

/-- The bytes of one record of a bank (R145, 13.2); the index lies within the table. -/
def Bank.recordBytes (b : Bank) (t : Table) (n : Nat) : List Byte :=
  match t with
  | .initiators => encodeOr 4 ((b.initiators[n]?.getD none).map InitiatorRecord.encode)
  | .views => encodeOr 24 ((b.views[n]?.getD none).map View.encode)
  | .classes => [(b.classes[n]?.getD .undefined).code, 0x00#8, 0x00#8, 0x00#8]
  | .replies => encodeOr 12 ((b.replies[n]?.getD none).map ReplyRecord.encode)

/-- READ_ENTRY (R145): table, index and bank in bytes 1 to 3. That the index is judged before the bank, as R150 orders them for WRITE_ENTRY, is the
model's choice (log entry 31). -/
def opReadEntry (s : State) (params : List Byte) : OpResult :=
  match tableOf (byteAt params 1) with
  | none => refuseOp s codeBadIndex
  | some t =>
    let n := (byteAt params 2).toNat
    if t.size ≤ n then refuseOp s codeBadIndex
    else if byteAt params 3 = 0x01#8 then
      if s.resync.isSome then refuseOp s codeStagingBusy
      else { state := s, answer := s.stagingBank.recordBytes t n, code := codeOk }
    else { state := s, answer := s.activeBank.recordBytes t n, code := codeOk }

/-- State codes of the entry picture (13.2). -/
def EntryState.code : EntryState → Byte
  | .held => 0x01#8
  | .issued => 0x02#8
  | .moving => 0x03#8
  | .replying => 0x04#8
  | .mgmtBody => 0x05#8
  | .mgmtAnswer => 0x06#8
  | .aborting => 0x07#8

/-- Kind codes of the entry picture. -/
def ExchangeKind.code : ExchangeKind → Byte
  | .data => 0x01#8
  | .queryReply => 0x02#8
  | .mgmt => 0x03#8

/-- Abort origin codes of the entry picture. -/
def AbortOrigin.code : AbortOrigin → Byte
  | .initiator => 0x01#8
  | .timeout => 0x02#8
  | .phase => 0x03#8
  | .management => 0x04#8

/-- Deadline codes of the entry picture. -/
def DeadlineKind.code : DeadlineKind → Byte
  | .exchange => 0x01#8
  | .hold => 0x02#8
  | .grace => 0x03#8
  | .body => 0x04#8

/-- Target link codes of the entry picture and of HOLD_LIST: 00h T0, 01h T1. -/
def targetCode : Target → Byte
  | .t0 => 0x00#8
  | .t1 => 0x01#8

/-- Byte 13 of the entry picture: the reply record index or the management operation code. -/
def pictureItem (x : Exchange) : Byte :=
  match x.replyRecord with
  | some r => BitVec.ofNat 8 r.val
  | none => x.operation.getD 0#8

/-- The 40-byte entry picture (13.2). A FREE entry has bytes 0 and 1 alone set. -/
def entryPicture (e : Entry) : List Byte :=
  match e.exchange with
  | none => [0x00#8, BitVec.ofNat 8 e.inc.val] ++ List.replicate 38 0#8
  | some x =>
    [x.state.code, BitVec.ofNat 8 e.inc.val, x.kind.code, pictureFlags x, initiatorByte x.initiator,
      (x.origin.map AbortOrigin.code).getD 0#8]
    ++ toBE 2 x.tag.toNat
    ++ [x.opcode, x.direction.code, (x.view.map fun v => BitVec.ofNat 8 v.val).getD 0xFF#8,
      (x.routing.map fun g => targetCode g.link).getD 0xFF#8, (x.routing.map Routing.unit).getD 0#8, pictureItem x,
      (x.deadline.map fun d => d.kind.code).getD 0#8, 0x00#8]
    ++ toBE 3 x.length ++ [0x00#8] ++ toBE 3 x.moved ++ [0x00#8] ++ toBE 3 (x.proceeded.getD 0) ++ [0x00#8]
    ++ toBE 5 ((x.routing.map fun g => g.block.toNat).getD 0) ++ [0x00#8, 0x00#8, 0x00#8]
    ++ toBE 4 ((x.deadline.map fun d => d.due.toNat).getD 0)

/-- READ_EXCHANGE (R145): entry index in byte 1. -/
def opReadExchange (s : State) (params : List Byte) : OpResult :=
  let n := (byteAt params 1).toNat
  if h : n < 64 then { state := s, answer := entryPicture (s.entry ⟨n, h⟩), code := codeOk }
  else refuseOp s codeBadIndex

/-- State codes of a LINK_STATE port (13.2). -/
def PortState.code : PortState → Byte
  | .down => 0x00#8
  | .training => 0x01#8
  | .initWait => 0x02#8
  | .up => 0x03#8
  | .failed => 0x04#8

/-- The queue depth field: the number of descriptors, or a free value where it does not fit two bytes (log entry 14). -/
def queueDepth (s : State) (p : Port) (position : Nat) : Nat :=
  if (s.port p).egress.length < 2 ^ 16 then (s.port p).egress.length
  else (Config.freeQueueDepth s.freeCount position).toNat

/-- The 8 bytes of one port in LINK_STATE's answer (13.2). -/
def portPicture (s : State) (p : Port) (position : Nat) : List Byte :=
  [(s.port p).state.code, BitVec.ofNat 8 (s.port p).initFailures, BitVec.ofNat 8 ((s.port p).peerSegment.getD 0 / 64),
    BitVec.ofNat 8 (s.port p).outstanding]
  ++ toBE 2 (s.port p).peerCredit ++ toBE 2 (queueDepth s p position)

/-- LINK_STATE's answer (R146, 13.2). That its number of free cells does not count those of its own REQUEST, which R139 releases in the same
event, is the model's choice (log entry 32). -/
def linkStateAnswer (s : State) : List Byte :=
  portPicture s .i 0 ++ portPicture s .t0 1 ++ portPicture s .t1 2 ++ toBE 2 s.freeCells ++ [0x00#8, 0x00#8]

/-- LINK_STATE (R146). The counter of the free values advances. -/
def opLinkState (s : State) : OpResult :=
  { state := { s with freeCount := s.freeCount + 1 }, answer := linkStateAnswer s, code := codeOk }

/-- WARM_RESET (R147): answered 00h with no data; its closing STATUS is what the pending record names. -/
def opWarmReset (s : State) : OpResult := { state := s, answer := [], code := codeOk, after := .markWarmReset }

end Sys2Proof.Machine
end

