-- ==== Sys2Proof/Machine/Aborts.lean ====
section
/-! DEFINITION. Chapter 5: END_EXCHANGE, initiator ABORT, and the expiries of the exchange and grace deadlines. -/

namespace Sys2Proof.Machine

/-! ## END_EXCHANGE -/

/-- END_EXCHANGE's answer (13.2): state code at the performance, entry index, incarnation. -/
def endAnswer (x : Exchange) (r : EntryRef) : List Byte :=
  [x.state.code, BitVec.ofNat 8 r.index.val, BitVec.ofNat 8 r.inc.val, 0x00#8]

/-- The effect of END_EXCHANGE on an open exchange (R90): closing STATUS D7h; an entry in ABORTING keeps its grace deadline and gets no second
ABORT. -/
def State.endByManagement (s : State) (i : EntryIndex) (x : Exchange) : State :=
  if x.state = .aborting then
    (s.setExchange i { x with origin := some .management, closed := true }).queueStatus i x codeEndedByManagement
  else s.endWithStatus i x codeEndedByManagement .management

/-- END_EXCHANGE (R89, R90): entry index and incarnation in bytes 1 and 2; `own` is the entry of the END_EXCHANGE itself. -/
def opEndExchange (s : State) (own : EntryIndex) (params : List Byte) : OpResult :=
  let n := (byteAt params 1).toNat
  let inc := (byteAt params 2).toNat
  if h : n < 64 then
    if 3 < inc then refuseOp s codeBadIndex
    else if n = own.val then refuseOp s codeBadIndex
    else
      match (s.entry ⟨n, h⟩).exchange with
      | none => refuseOp s codeTooLate
      | some x =>
        if (s.entry ⟨n, h⟩).inc.val ≠ inc ∨ x.closed = true ∨ x.parked.isSome = true then refuseOp s codeTooLate
        else
          { state := s.endByManagement ⟨n, h⟩ x, answer := endAnswer x (s.refOf ⟨n, h⟩), code := codeOk }
  else refuseOp s codeBadIndex

/-! ## Initiator ABORT -/

/-- ABORT_DONE NOT_FOUND in the ABORT's own cell, recording no entry (R85). -/
def State.answerNotFound (s : State) (f : List Byte) : State :=
  s.enqueue .i { content := .stored { initiator := frameInitiator f, tag := frameTag f, body := .abortDone .notFound } (cellsFor f.length) }

/-- An ABORT on an exchange the target has not seen, or that no target serves (R86): ABORT_DONE ABORTED in the ABORT's own cell, the
entry freed. -/
def State.abortUnseen (s : State) (i : EntryIndex) (x : Exchange) (f : List Byte) : State :=
  let done := s.withdrawUnseen i x
  (done.enqueue .i (done.ofEntry i (.stored (abortDoneFrame x) (cellsFor f.length)))).freeEntry i

/-- A well-formed ABORT that matches an open entry (R86, R87, R69). -/
def State.abortMatched (s : State) (i : EntryIndex) (x : Exchange) (f : List Byte) : State :=
  if x.state = .aborting ∨ x.parked.isSome = true then s.answerNotFound f
  else
    match x.targetActive with
    | some g => (s.discard f).enterAborting i x g .initiator false
    | none => s.abortUnseen i x f

/-- The STALE_FRAME alert of an initiator frame that names link, initiator id and tag (R67, R85). -/
def State.postStaleInitiator (s : State) (f : List Byte) (d : StaleDetail) : State :=
  s.post { s.alertOf (.staleFrame d) with link := some .i, initiator := some (frameInitiator f), tag := some (frameTag f) }

/-- Exchange control takes an ABORT from port I (R85). -/
def State.takeAbort (s : State) (f : List Byte) : State :=
  if isShort f then (s.discard f).postStaleLink .i .shortFrame
  else if !abortFormOk f then (s.discard f).postStaleInitiator f .form
  else
    match s.openEntry (frameInitiator f) (frameTag f) with
    | none => s.answerNotFound f
    | some i =>
      match (s.entry i).exchange with
      | none => s.answerNotFound f
      | some x => s.abortMatched i x f

/-- The event INITIATOR_ABORT: the frame exchange control takes next from port I is an ABORT. -/
def initiatorAbortEvent (s : State) : Option State :=
  (s.takeKind .i kindAbort).map fun (f, t) => t.takeAbort f

/-- INITIATOR_ABORT (R85, R86, R87). -/
def execInitiatorAbort (s : State) : Host.Outcome State Fault Refusal := event initiatorAbortEvent s

/-! ## Expiries of the exchange and grace deadlines -/

/-- The TIMEOUT alert (R78, R79, R138). -/
def State.timeoutAlert (s : State) (i : EntryIndex) (x : Exchange) (d : TimeoutDetail) : Alert :=
  { s.alertOn (.timeout d) (s.refOf i) x with link := x.linkPort }

/-- The event of an exchange deadline's expiry (R78, R79). -/
def exchangeExpiryEvent (i : EntryIndex) (s : State) : Option State :=
  (s.expired i .exchange).map fun x =>
    (s.endWithStatus i x codeTimedOut .timeout).post
      (s.timeoutAlert i x (if x.targetActive.isSome then .sent else .notSent))

/-- EXCHANGE_DEADLINE_EXPIRY (R78, R79). -/
def execExchangeDeadlineExpiry (i : EntryIndex) (s : State) : Host.Outcome State Fault Refusal := event (exchangeExpiryEvent i) s

/-- The event of a grace deadline's expiry (R84). -/
def graceExpiryEvent (i : EntryIndex) (s : State) : Option State :=
  (s.expired i .grace).map fun x =>
    if x.closed then s.freeEntry i
    else (s.enqueue .i (s.ofEntry i (.made (abortDoneFrame x)))).freeEntry i

/-- GRACE_EXPIRY (R84). -/
def execGraceExpiry (i : EntryIndex) (s : State) : Host.Outcome State Fault Refusal := event (graceExpiryEvent i) s

end Sys2Proof.Machine
end

