-- ==== Sys2Proof/Machine/Alerts.lean ====
section
/-! DEFINITION. Chapter 12: ALERT_ACK, the ALERT frame and its resend. -/

namespace Sys2Proof.Machine

/-- ALERT_ACK (R161): the batch sequence in bytes 1 and 2. -/
def opAlertAck (s : State) (params : List Byte) : OpResult :=
  match s.batch with
  | none => refuseOp s codeStaleAck
  | some b =>
    if b.sequence.toNat = fieldAt params 1 2 then
      { state := ({ s with alerts := s.alerts.drop b.size, batch := none }).withdraw .i Descriptor.isAlert, answer := [], code := codeOk }
    else refuseOp s codeStaleAck

/-- The ALERT frame made from the batch in flight (R159, R160): a resent frame carries a dropped count of 0. -/
def State.alertFrame (s : State) : Frame :=
  match s.batch, s.lease with
  | some b, some l =>
    { initiator := l.owner, tag := 0#16,
      body := .alert b.sequence (if b.sentOnce then 0 else b.carried) (s.alerts.take b.size) }
  | _, _ => { initiator := 0, tag := 0#16, body := .alert s.sequence 0 [] }

/-- The ALERT frame has been transmitted: the resend deadline is 1000 ms ahead (R160). -/
def State.alertSent (s : State) : State :=
  { s with batch := s.batch.map fun b => { b with resend := some (s.after Config.resendMs), sentOnce := true } }

/-- The expiry of the resend deadline (R160). -/
def State.resendBatch (s : State) (b : Batch) : State :=
  ({ s with batch := some { b with resend := none } }).enqueue .i { content := .alert }

end Sys2Proof.Machine
end

