-- ==== Sys2Proof/Machine/Holds.lean ====
section
/-! DEFINITION. Chapter 6: HOLD_DECIDE and HOLD_LIST. -/

namespace Sys2Proof.Machine

/-- HOLD_DECIDE's answer (13.2). -/
def decideAnswer (outcome : Byte) (r : EntryRef) : List Byte :=
  [outcome, BitVec.ofNat 8 r.index.val, BitVec.ofNat 8 r.inc.val, 0x00#8]

/-- Outcome codes of HOLD_DECIDE (13.2). -/
def outcomeReleased : Byte := 0x01#8
def outcomeReleasedLinkDown : Byte := 0x02#8
def outcomeRejected : Byte := 0x03#8

/-- The exchange timeout kept in the place of an entry (R92). Each HELD entry has a place; without one none is read (log entry 24). -/
def State.keptTimeout (s : State) (i : EntryIndex) : Nat :=
  ((s.holdQueue.find? fun h => h.entry.index = i).map HoldPlace.timeoutMs).getD 0

/-- A release to a link that is UP (R97): the place leaves the queue, the entry enters ISSUED with its exchange deadline, and the rewritten
REQUEST is queued toward the target. -/
def State.releaseHeld (s : State) (i : EntryIndex) (x : Exchange) (g : Routing) (f : List Byte) : State :=
  let issued := { x with state := .issued, storedRequest := some .inQueue,
                         deadline := some { kind := .exchange, due := s.after (s.keptTimeout i) } }
  let placed := { s.setExchange i issued with holdQueue := s.holdQueue.filter fun h => h.entry.index ≠ i }
  placed.queueRequest i g f

/-- HOLD_DECIDE's decision on a held exchange (R97, R98, R99). -/
def decideHeld (s : State) (i : EntryIndex) (x : Exchange) (decision : Byte) : OpResult :=
  let r := s.refOf i
  if decision = 0x02#8 then
    { state := s.closeAndFree i x codeHoldRejected, answer := decideAnswer outcomeRejected r, code := codeOk }
  else
    match x.routing, x.storedRequest with
    | some g, some (.inCells f) =>
      if s.isUp (targetPort g.link) then
        { state := s.releaseHeld i x g f, answer := decideAnswer outcomeReleased r, code := codeOk }
      else
        { state := s.closeAndFree i x codeLinkDown, answer := decideAnswer outcomeReleasedLinkDown r, code := codeOk }
    | _, _ => refuseOp s codeTooLate

/-- HOLD_DECIDE (R96): entry index, incarnation and decision in bytes 1 to 3. -/
def opHoldDecide (s : State) (params : List Byte) : OpResult :=
  let n := (byteAt params 1).toNat
  let inc := (byteAt params 2).toNat
  if h : n < 64 then
    if 3 < inc then refuseOp s codeBadIndex
    else
      match (s.entry ⟨n, h⟩).exchange with
      | none => refuseOp s codeTooLate
      | some x =>
        if x.state ≠ .held ∨ (s.entry ⟨n, h⟩).inc.val ≠ inc then refuseOp s codeTooLate
        else decideHeld s ⟨n, h⟩ x (byteAt params 3)
  else refuseOp s codeBadIndex

/-! ## Expiry (R95) -/

/-- The HOLD_EXPIRED alert (R95). -/
def State.holdExpiredAlert (s : State) (i : EntryIndex) (x : Exchange) : Alert :=
  { s.alertOn .holdExpired (s.refOf i) x with link := x.linkPort }

/-- The expiry of a hold deadline (R95). -/
def State.expireHold (s : State) (i : EntryIndex) (x : Exchange) : State :=
  (s.closeAndFree i x codeHoldExpired).post (s.holdExpiredAlert i x)

/-- The expiries, from the head of `places` on, of the holds whose deadline the clock has reached. -/
def State.expireHolds (s : State) : List HoldPlace → State
  | [] => s
  | h :: hs =>
    match s.expired h.entry.index .hold with
    | some x => (s.expireHold h.entry.index x).expireHolds hs
    | none => s.expireHolds hs

/-! ## HOLD_LIST (R103) -/

/-- The time remaining of a hold (R103): deadline minus clock. An entry in HELD has its hold deadline (R94); without one none is read (log
entry 24). -/
def timeRemaining (s : State) (x : Exchange) : Nat := (x.deadline.map fun d => (d.due - s.clock).toNat).getD 0

/-- Block count of a held request (R103). -/
def heldCount (x : Exchange) : Nat :=
  match x.storedRequest with
  | some (.inCells f) => requestCount f
  | _ => 0

/-- The 24 bytes of one place in HOLD_LIST's answer (13.2). -/
def placePicture (s : State) (h : HoldPlace) : List Byte :=
  match (s.entry h.entry.index).exchange with
  | none => List.replicate 24 0#8
  | some x =>
    [BitVec.ofNat 8 h.entry.index.val, BitVec.ofNat 8 h.entry.inc.val, initiatorByte x.initiator] ++ toBE 2 x.tag.toNat
      ++ [(x.view.map fun v => BitVec.ofNat 8 v.val).getD 0xFF#8, (x.routing.map fun g => targetCode g.link).getD 0xFF#8,
        (x.routing.map Routing.unit).getD 0#8, x.opcode, x.direction.code]
      ++ toBE 3 x.length ++ toBE 2 (heldCount x) ++ toBE 5 ((x.routing.map fun g => g.block.toNat).getD 0)
      ++ toBE 2 h.timeoutMs ++ toBE 2 (timeRemaining s x)

/-- HOLD_LIST's answer (R103, 13.2): the number of places, then the places from head to tail. -/
def holdListAnswer (s : State) : List Byte :=
  [BitVec.ofNat 8 s.holdQueue.length, 0x00#8, 0x00#8, 0x00#8] ++ s.holdQueue.flatMap (placePicture s)

/-- HOLD_LIST (R103). A hold whose deadline the clock has reached has expired and left the queue. That an expiry that has not been taken yet is
taken here, ahead of the answer and behind the verdict's checks and the allocation of HOLD_LIST's own entry, is the model's choice (log entry
13). -/
def opHoldList (s : State) : OpResult :=
  let t := s.expireHolds s.holdQueue
  { state := t, answer := holdListAnswer t, code := codeOk }

end Sys2Proof.Machine
end

