-- ==== Sys2Proof/Machine/Staging.lean ====
section
/-! DEFINITION. Chapter 11: WRITE_ENTRY, CLEAR_STAGING, COMMIT and resync. -/

namespace Sys2Proof.Machine

/-- Resync starts, or starts again: RUNNING with a completion deadline 2 ms ahead (R155). -/
def State.startResync (s : State) : State := { s with resync := some (s.after Config.resyncMs) }

/-- A record of a body takes the place of one record of a bank; none when check 3 of R150 fails. -/
def Bank.withRecord (b : Bank) (t : Table) (n : Nat) (body : List Byte) : Option Bank :=
  match t with
  | .initiators => (readInitiatorRecord body).map fun r => { b with initiators := b.initiators.setIfInBounds n r }
  | .views => (readView body).map fun r => { b with views := b.views.setIfInBounds n r }
  | .classes => (readClassRecord body).map fun r => { b with classes := b.classes.setIfInBounds n r }
  | .replies => (readReplyRecord body).map fun r => { b with replies := b.replies.setIfInBounds n r }

/-- The bytes of a body chain: the payloads of its frames in order of offset (R137). -/
def bodyBytes (frames : List (List Byte)) : List Byte := frames.flatMap dataPayload

/-- WRITE_ENTRY (R150): table and index in bytes 1 and 2, the record in the body. -/
def opWriteEntry (s : State) (params body : List Byte) : OpResult :=
  match tableOf (byteAt params 1) with
  | none => refuseOp s codeBadIndex
  | some t =>
    let n := (byteAt params 2).toNat
    if t.size ≤ n then refuseOp s codeBadIndex
    else if s.resync.isSome then refuseOp s codeStagingBusy
    else
      match s.stagingBank.withRecord t n body with
      | none => refuseOp s codeBadBody
      | some b => { state := { s.setStaging b with dirty := true }, answer := [], code := codeOk }

/-- CLEAR_STAGING (R151). -/
def opClearStaging (s : State) : OpResult :=
  if s.resync.isSome then refuseOp s codeStagingBusy
  else { state := { s.setStaging Bank.cleared with dirty := true }, answer := [], code := codeOk }

/-- A fault of a valid view record at commit (R152, order 1). -/
def View.commitFault (v : View) : Bool :=
  decide (v.mask = 0#16) || decide (1 < v.linkCode.toNat) || decide (1 < v.blockSizeCode.toNat)
    || decide (2 ^ 40 < v.base.toNat + v.extent)

/-- A fault of a valid reply record at commit (R152, order 2). -/
def ReplyRecord.commitFault (b : Bank) (r : ReplyRecord) : Bool :=
  decide (1 < r.linkCode.toNat) || decide (b.classOf r.opcode ≠ .query)

/-- A fault of the initiator table at commit (R152, order 3): someone is present and nobody present has the MGMT right. -/
def Bank.noManager (b : Bank) : Bool :=
  !b.noInitiator && (List.finRange 16).all fun n => !(b.initiators.get n).any InitiatorRecord.mgmtRight

/-- Index of the first faulty view. -/
def Bank.faultyView (b : Bank) : Option ViewIndex :=
  (List.finRange 128).find? fun k => (b.views.get k).any View.commitFault

/-- Index of the first faulty reply record. -/
def Bank.faultyReply (b : Bank) : Option ReplyIndex :=
  (List.finRange 32).find? fun k => (b.replies.get k).any (ReplyRecord.commitFault b)

/-- Validation of a bank (R152): the table and the index of the first fault, with FFFFh for a fault at order 3 (13.2). -/
def Bank.firstFault (b : Bank) : Option (Table × Nat) :=
  match b.faultyView with
  | some k => some (.views, k.val)
  | none =>
    match b.faultyReply with
    | some k => some (.replies, k.val)
    | none => if b.noManager then some (.initiators, 0xFFFF) else none

/-- The swap of a commit (R153, steps 1 to 4). -/
def State.swapBanks (s : State) : State :=
  ({ s with active := otherBank s.active, generation := s.generation + 1#32, dirty := false } : State).startResync

/-- The lease is to be revoked after a swap (R154). -/
def State.revokes (s : State) : Bool :=
  !s.bootstrap && s.lease.any fun l => !s.hasMgmtRight l.owner

/-- COMMIT (R152, R153, R154). -/
def opCommit (s : State) : OpResult :=
  if s.resync.isSome then refuseOp s codeStagingBusy
  else
    match s.stagingBank.firstFault with
    | some (t, n) => { state := s, answer := [t.code, 0x00#8] ++ toBE 2 n, code := codeValidationFailed }
    | none =>
      let swapped := s.swapBanks
      if swapped.revokes then { state := swapped, answer := [], code := codeOk, after := .revokeLease }
      else { state := swapped, answer := toBE 4 swapped.generation.toNat, code := codeOk }

/-- The completion of resync (R156). -/
def State.completeResync (s : State) : State :=
  let copied := { s.setStaging s.activeBank with resync := none, dirty := false }
  copied.post { s.alertOf .commitDone with generation := some s.generation }

end Sys2Proof.Machine
end

