-- ==== Sys2Proof/Machine/Perform.lean ====
section
/-! DEFINITION. The performance of a management operation (R139): its three checks, the operation itself, its conclusion. -/

namespace Sys2Proof.Machine

/-- The bytes of an entry's attached request; none are left once its operation has been performed. -/
def Exchange.requestBytes (x : Exchange) : List Byte :=
  match x.storedRequest with
  | some (.inCells f) => f
  | _ => []

/-- Check 1 of R139, by R164: a parameter block of exactly 4 bytes that names an operation, its argument bytes, and the body. The operation
code is byte 0 of the block (R136, R164); that the REQUEST's opcode is not read as one, where R38 says it is, is the model's choice (log entry
27). -/
def Exchange.namedOp (x : Exchange) : Option MgmtOp :=
  let params := requestParams x.requestBytes
  if params.length = 4 then
    (mgmtOpOf (byteAt params 0)).filter fun op => op.argsOk params && op.bodyOk x.direction x.length
  else none

/-- Check 2 of R139: bootstrap, or the MGMT right in the active bank. -/
def State.mayManage (s : State) (caller : InitiatorId) : Bool := s.bootstrap || s.hasMgmtRight caller

/-- The caller is the lease owner (check 3 of R139). -/
def State.ownsLease (s : State) (caller : InitiatorId) : Bool := s.lease.any fun l => l.owner == caller

/-- An operation that has passed the three checks. -/
def carryOut (s : State) (i : EntryIndex) (x : Exchange) (params : List Byte) : MgmtOp → OpResult
  | .identify => opIdentify s
  | .claim => opClaim s x.initiator
  | .renew => opRenew s x.initiator
  | .releaseLease => opReleaseLease s
  | .readEntry => opReadEntry s params
  | .writeEntry => opWriteEntry s params (bodyBytes x.bodyFrames)
  | .clearStaging => opClearStaging s
  | .commit => opCommit s
  | .readExchange => opReadExchange s params
  | .holdList => opHoldList s
  | .holdDecide => opHoldDecide s params
  | .alertAck => opAlertAck s params
  | .endExchange => opEndExchange s i params
  | .linkState => opLinkState s
  | .warmReset => opWarmReset s

/-- The checks of R139 in their order, and the operation that passes them. -/
def operationResult (s : State) (i : EntryIndex) (x : Exchange) : OpResult :=
  match x.namedOp with
  | none => refuseOp s codeBadBody
  | some op =>
    if !s.mayManage x.initiator then refuseOp s codeNotPermitted
    else if op.leaseClass && !s.ownsLease x.initiator then refuseOp s codeNotOwner
    else carryOut s i x (requestParams x.requestBytes) op

/-- The performance of the operation of entry i, whose exchange x is in MGMT_ANSWER (R139, R140). -/
def State.performOperation (s : State) (i : EntryIndex) (x : Exchange) : State :=
  State.conclude i x (operationResult s i x)

end Sys2Proof.Machine
end

