-- ==== Sys2Proof/Machine/Admission.lean ====
section
/-! DEFINITION. Chapter 3: the verdict on a REQUEST (R45 to R60), with the hand-offs of R93, R104 and R136. -/

namespace Sys2Proof.Machine

/-- What a verdict decides (R45): a refusal with its code and, at steps 9 to 13, the view whose DENIAL alert may be posted; or an
admission to a FREE entry, with what it records. -/
inductive Verdict where
  | refuse (code : Byte) (denial : Option (ViewIndex × View))
  | manage (i : EntryIndex)
  | hold (i : EntryIndex) (k : ViewIndex) (v : View)
  | reply (i : EntryIndex) (k : ViewIndex) (r : ReplyIndex) (record : ReplyRecord)
  | issue (i : EntryIndex) (k : ViewIndex) (v : View)
  deriving DecidableEq, Repr

/-! ## The checks -/

/-- Bytes of the snapshot a reply would need (R55). -/
def snapshotLength (q : Request) (r : ReplyRecord) : Nat :=
  if q.direction = .dirIn then min r.data.length q.length else 0

/-- Cells of the snapshot a reply would need (R55): one for its bookkeeping and those of its data. -/
def snapshotCells (q : Request) (r : ReplyRecord) : Nat := 1 + cellsFor (snapshotLength q r)

/-- Steps 16 and 17 (R56, R57). -/
def State.judgeLink (s : State) (i : EntryIndex) (k : ViewIndex) (v : View) : Verdict :=
  if s.isUp (targetPort v.link) then .issue i k v else .refuse codeLinkDown none

/-- Step 15 (R55), for a request that step 14 did not hold. -/
def State.judgeReply (s : State) (i : EntryIndex) (k : ViewIndex) (v : View) (q : Request) : Verdict :=
  if s.activeBank.classOf q.opcode = .query then
    match s.activeBank.matchReply v q.opcode q.params with
    | some (r, record) => if snapshotCells q record ≤ s.freeCells then .reply i k r record else s.judgeLink i k v
    | none => s.judgeLink i k v
  else s.judgeLink i k v

/-- Step 14 (R54). -/
def State.judgeHold (s : State) (i : EntryIndex) (k : ViewIndex) (v : View) (q : Request) : Verdict :=
  if v.holds (s.activeBank.classOf q.opcode) then
    if s.holdQueue.length < Config.holdPlaces then .hold i k v else .refuse codeHoldFull none
  else s.judgeReply i k v q

/-- The DATA right of an initiator (R28, R52). -/
def State.hasDataRight (s : State) (n : InitiatorId) : Bool := (s.initiatorRecord n).any InitiatorRecord.dataRight

/-- Steps 9 to 13 (R51 to R53): the code of the first that fails. -/
def State.denialCode (s : State) (v : View) (q : Request) : Option Byte :=
  let c := s.activeBank.classOf q.opcode
  if c = .undefined then some codeUnknownOp
  else if c = .forbidden then some codeForbiddenOp
  else if !c.permits q.direction then some codeWrongDirection
  else if !s.hasDataRight q.initiator || !v.grants c then some codeDenied
  else if c.windowed && (decide (q.count = 0) || decide (v.extent < q.block.toNat + q.count)) then some codeOutOfRange
  else if c.windowed && decide (q.count * v.blockSize ≠ q.length) then some codeLengthMismatch
  else none

/-- Steps 8 to 17, for a request to a unit of storage. -/
def State.judgeStorage (s : State) (i : EntryIndex) (q : Request) : Verdict :=
  match s.activeBank.matchView q.initiator q.unit with
  | none => .refuse codeNoView none
  | some (k, v) =>
    match s.denialCode v q with
    | some code => .refuse code (some (k, v))
    | none => s.judgeHold i k v q

/-- The management unit (R4). -/
def managementUnit : Byte := 0xFF#8

/-- Steps 2 to 5 (R47 to R49): the code of the first that fails. -/
def State.initiatorCode (s : State) (q : Request) : Option Byte :=
  if s.bootstrap && q.unit != managementUnit then some codeNotConfigured
  else if !s.bootstrap && (s.initiatorRecord q.initiator).isNone then some codeUnknownInitiator
  else if (s.openEntry q.initiator q.tag).isSome then some codeTagInUse
  else if s.quotaOf q.initiator ≤ s.inUseCount q.initiator then some codeQuotaReached
  else none

/-- The verdict on a REQUEST of at least four bytes (R45). -/
def State.judge (s : State) (f : List Byte) : Verdict :=
  if !requestFormOk f then .refuse codeMalformed none
  else
    let q := readRequest f
    match s.initiatorCode q with
    | some code => .refuse code none
    | none =>
      match s.lowestFree with
      | none => .refuse codeNoEntry none
      | some i => if q.unit = managementUnit then .manage i else s.judgeStorage i q

/-! ## Refusals -/

/-- The refusal STATUS made in the REQUEST's first cell, its other cells released (R58). -/
def State.refuse (s : State) (f : List Byte) (code : Byte) : State :=
  let status : Frame :=
    { initiator := frameInitiator f, tag := frameTag f, body := .status code false false (refusalResidue f) [] }
  (s.release (cellsFor f.length - 1)).enqueue .i { content := .stored status 1 }

/-- The DENIAL alert of a refusal at steps 9 to 13, where the view asks for it or the code is CAh (R59). -/
def State.postDenial (s : State) (f : List Byte) (code : Byte) : Option (ViewIndex × View) → State
  | none => s
  | some (k, v) =>
    if v.alertOnDeny || code == codeForbiddenOp then
      s.post { s.alertOf (.denial code) with
        initiator := some (frameInitiator f), tag := some (frameTag f), view := some k, link := some (targetPort v.link) }
    else s

/-! ## Admissions -/

/-- The opening values an allocation takes from the REQUEST (R11). -/
def openingExchange (q : Request) (state : EntryState) (kind : ExchangeKind) : Exchange :=
  { state := state, kind := kind, initiator := q.initiator, tag := q.tag, opcode := q.opcode, direction := q.direction,
    length := q.length, proceeded := if q.direction = .dirOut then some 0 else none }

/-- Allocation (R11): the incarnation rises by one modulo 4 and the entry takes its exchange. -/
def State.allocate (s : State) (i : EntryIndex) (x : Exchange) : State :=
  s.setEntry i { inc := (s.entry i).inc + 1, exchange := some x }

/-- The recorded block address (R53): translated for READ_BLOCKS and WRITE_BLOCKS, as sent for CONTROL and QUERY. -/
def State.recordedBlock (s : State) (v : View) (q : Request) : BlockAddress :=
  if (s.activeBank.classOf q.opcode).windowed then v.base + q.block else q.block

/-- The routing a verdict records (R11, R53). -/
def State.routingOf (s : State) (v : View) (q : Request) : Routing :=
  { link := v.link, unit := v.unit, block := s.recordedBlock v q, commandSent := false }

/-- Exchange timeout of a view in ms: its units are 10 ms (R36, R57). -/
def View.timeoutMs (v : View) : Nat := v.timeout * 10

/-- Hold wait of a view in ms: its units are 100 ms (R54). -/
def View.holdWaitMs (v : View) : Nat := v.holdWait * 100

/-- The HOLD_ARRIVAL alert (R93). -/
def State.holdArrivalAlert (s : State) (r : EntryRef) (x : Exchange) (v : View) (block : BlockAddress) (q : Request) : Alert :=
  { s.alertOn .holdArrival r x with
    link := some (targetPort v.link), request := some { opcode := q.opcode, block := block, count := q.count } }

/-- Step 14 admits to the hold queue (R54, R93). -/
def State.admitHeld (s : State) (i : EntryIndex) (k : ViewIndex) (v : View) (f : List Byte) : State :=
  let q := readRequest f
  let x := { openingExchange q .held .data with
    view := some k, routing := some (s.routingOf v q), storedRequest := some (.inCells f),
    deadline := some { kind := .hold, due := s.after v.holdWaitMs } }
  let opened := s.allocate i x
  let r := opened.refOf i
  let place : HoldPlace := { entry := r, timeoutMs := v.timeoutMs }
  let placed := { opened with holdQueue := opened.holdQueue ++ [place] }
  placed.post (placed.holdArrivalAlert r x v (s.recordedBlock v q) q)

/-- Step 15 admits to the reply engine (R55, R104): the snapshot takes free cells, then the REQUEST's own cells are released.
A place that an ended exchange of the entry has left on the start list gives way to the new one, so the list holds each entry once (log entry
30). -/
def State.admitReply (s : State) (i : EntryIndex) (k : ViewIndex) (r : ReplyIndex) (record : ReplyRecord) (f : List Byte) : State :=
  let q := readRequest f
  let snapshot : Snapshot := { code := record.code, data := record.data.take (snapshotLength q record), started := false }
  let x := { openingExchange q .replying .queryReply with view := some k, replyRecord := some r, snapshot := some snapshot }
  let opened := ((s.takeCells (snapshotCells q record)).discard f).allocate i x
  { opened with startList := (opened.startList.filter fun r => r.index ≠ i) ++ [opened.refOf i] }

/-- Step 17 issues toward the target (R57). -/
def State.admitIssued (s : State) (i : EntryIndex) (k : ViewIndex) (v : View) (f : List Byte) : State :=
  let q := readRequest f
  let g := s.routingOf v q
  let x := { openingExchange q .issued .data with
    view := some k, routing := some g, storedRequest := some .inQueue,
    deadline := some { kind := .exchange, due := s.after v.timeoutMs } }
  (s.allocate i x).queueRequest i g f

/-- The PROCEED for a management body (R136). -/
def bodyProceed (x : Exchange) : Frame := { initiator := x.initiator, tag := x.tag, body := .proceed x.length }

/-- The management exchange a verdict opens at step 7, as it stands in MGMT_ANSWER (R50, R136). -/
def managementExchange (f : List Byte) : Exchange :=
  { openingExchange (readRequest f) .mgmtAnswer .mgmt with
    storedRequest := some (.inCells f), operation := (readRequest f).params.head? }

/-- The management exchange while its body is awaited (R136). -/
def State.awaitingBody (s : State) (x : Exchange) : Exchange :=
  { x with state := .mgmtBody, proceeded := some x.length, deadline := some { kind := .body, due := s.after Config.bodyMs } }

/-- Step 7 hands off to the management engine (R50, R136). That the expiries which a HOLD_LIST takes come behind this allocation and the verdict's
checks is the model's choice (log entry 13). -/
def State.admitManagement (s : State) (i : EntryIndex) (f : List Byte) : State :=
  let x := managementExchange f
  if x.direction = .dirOut ∧ 0 < x.length then
    if x.length ≤ Config.bodyMax then
      let opened := s.allocate i (s.awaitingBody x)
      opened.enqueue .i (opened.ofEntry i (.made (bodyProceed x)))
    else State.conclude i x (refuseOp (s.allocate i x) codeBadBody)
  else (s.allocate i x).performOperation i x

/-- A verdict is carried out. -/
def State.giveVerdict (s : State) (f : List Byte) : Verdict → State
  | .refuse code denial => (s.refuse f code).postDenial f code denial
  | .manage i => s.admitManagement i f
  | .hold i k v => s.admitHeld i k v f
  | .reply i k r record => s.admitReply i k r record f
  | .issue i k v => s.admitIssued i k v f

/-- The admission unit takes one REQUEST whole; one too short to name its initiator is discarded (R45, R46). -/
def State.takeRequest (s : State) (f : List Byte) : State :=
  if isShort f then (s.discard f).postStaleLink .i .shortFrame else s.giveVerdict f (s.judge f)

/-- The event VERDICT: the REQUEST that has waited longest (R43). -/
def verdictEvent (s : State) : Option State := (s.takeNext .admission .i).map fun (f, t) => t.takeRequest f

/-- VERDICT (R45). -/
def execVerdict (s : State) : Host.Outcome State Fault Refusal := event verdictEvent s

end Sys2Proof.Machine
end

