-- ==== Sys2Proof/Machine/DataPhase.lean ====
section
/-! DEFINITION. Chapters 1.4, 4 and 5.2: frames from targets (R16, R61 to R63, R65, R68, R69, R81 to R83) and initiator DATA (R64, R66, R67,
R137). -/

namespace Sys2Proof.Machine

/-! ## Matching a target's frame (R16) -/

/-- The outcome of matching a target's frame. -/
inductive TargetMatch where
  /-- stale, with the detail of the first condition that fails and, at conditions 3 to 7, the entry the tag named -/
  | stale (d : StaleDetail) (r : Option EntryRef)
  | matched (i : EntryIndex) (x : Exchange) (g : Routing)
  deriving DecidableEq, Repr

/-- The entry and incarnation a downstream tag names (R12). -/
def decodedTag (tag : Nat) : EntryRef := { index := Fin.ofNat 64 tag, inc := Fin.ofNat 4 (tag / 64) }

/-- The seven conditions of R16 in their order. -/
def State.matchTarget (s : State) (t : Target) (f : List Byte) : TargetMatch :=
  if 0xFF < (frameTag f).toNat then .stale .tagRange none
  else if frameInitiator f ≠ 0 then .stale .initiatorId none
  else
    let r := decodedTag (frameTag f).toNat
    match (s.entry r.index).exchange with
    | none => .stale .entryFree (some r)
    | some x =>
      if (s.entry r.index).inc ≠ r.inc then .stale .incarnation (some r)
      else
        match x.routing with
        | none => .stale .notData (some r)
        | some g =>
          if g.link ≠ t then .stale .otherLink (some r)
          else if g.commandSent = false then .stale .notSent (some r)
          else .matched r.index x g

/-- The STALE_FRAME alert of a target's frame: link, tag as received, and the entry named where there is one (R16, R69, R83). -/
def State.postStaleTarget (s : State) (t : Target) (f : List Byte) (d : StaleDetail) (r : Option EntryRef) : State :=
  s.post { s.alertOf (.staleFrame d) with link := some (targetPort t), tag := some (frameTag f), entry := r }

/-- Exchange control takes a frame from a target: short frames (R62) and stale ones (R16) are discarded, a stale ABORT_DONE without an
alert; `rule` is the rule of the frame's kind on the entry it matched. -/
def State.takeTargetFrame (s : State) (t : Target) (f : List Byte) (rule : EntryIndex → Exchange → Routing → State) : State :=
  if isShort f then (s.discard f).postStaleLink (targetPort t) .shortFrame
  else
    match s.matchTarget t f with
    | .stale d r => if byteAt f 0 = kindAbortDone then s.discard f else (s.discard f).postStaleTarget t f d r
    | .matched i x g => rule i x g

/-- A frame that reaches an entry with a parked STATUS (R69). -/
def State.afterStatus (s : State) (t : Target) (i : EntryIndex) (f : List Byte) : State :=
  (s.discard f).postStaleTarget t f .afterStatus (some (s.refOf i))

/-! ## PROCEED and DATA from a target -/

/-- The detail of the check a PROCEED fails in ISSUED or MOVING (R62, R63). -/
def proceedViolation (x : Exchange) (f : List Byte) : Option ViolationDetail :=
  if !proceedFormOk f then some .form
  else if x.direction ≠ .dirOut then some .direction
  else if x.length < x.proceeded.getD 0 + proceedWindow f then some .overLength
  else none

/-- An accepted PROCEED (R63). -/
def State.acceptProceed (s : State) (i : EntryIndex) (x : Exchange) (f : List Byte) : State :=
  let moving := { x with state := .moving, proceeded := some (x.proceeded.getD 0 + proceedWindow f) }
  let forwarded : Frame := { initiator := x.initiator, tag := x.tag, body := .proceed (proceedWindow f) }
  (s.setExchange i moving).enqueue .i (s.ofEntry i (.stored forwarded (cellsFor f.length)))

/-- The rule of a PROCEED that matched (R63, R69, R81). -/
def State.proceedRule (s : State) (t : Target) (f : List Byte) (i : EntryIndex) (x : Exchange) (_ : Routing) : State :=
  if x.parked.isSome then s.afterStatus t i f
  else if x.state = .aborting then s.discard f
  else
    match proceedViolation x f with
    | some d => (s.discard f).phaseViolation i x d
    | none => s.acceptProceed i x f

/-- The event TARGET_PROCEED. -/
def targetProceedEvent (t : Target) (s : State) : Option State :=
  (s.takeKind (targetPort t) kindProceed).map fun (f, u) => u.takeTargetFrame t f (u.proceedRule t f)

/-- TARGET_PROCEED (R63). -/
def execTargetProceed (t : Target) (s : State) : Host.Outcome State Fault Refusal := event (targetProceedEvent t) s

/-- The detail of the check a target's DATA fails in ISSUED or MOVING (R62, R65). R65 does not order its checks: that DATA which fails several is
given DIRECTION first, then OFFSET, then OVER_LENGTH, is the model's choice (log entry 31). -/
def targetDataViolation (x : Exchange) (f : List Byte) : Option ViolationDetail :=
  if !dataFormOk f then some .form
  else if x.direction ≠ .dirIn then some .direction
  else if dataOffset f ≠ x.moved then some .offset
  else if x.length < x.moved + dataLength f then some .overLength
  else none

/-- A target's DATA accepted toward the initiator (R65). -/
def State.acceptTargetData (s : State) (i : EntryIndex) (x : Exchange) (f : List Byte) : State :=
  let moving := { x with state := .moving, moved := x.moved + dataLength f, dataWaiting := x.dataWaiting + 1 }
  let forwarded : Frame := { initiator := x.initiator, tag := x.tag, body := .data (dataOffset f) (dataPayload f) }
  (s.setExchange i moving).enqueue .i (s.ofEntry i (.stored forwarded (cellsFor f.length)))

/-- The rule of a target's DATA that matched (R65, R69, R81). -/
def State.targetDataRule (s : State) (t : Target) (f : List Byte) (i : EntryIndex) (x : Exchange) (_ : Routing) : State :=
  if x.parked.isSome then s.afterStatus t i f
  else if x.state = .aborting then s.discard f
  else
    match targetDataViolation x f with
    | some d => (s.discard f).phaseViolation i x d
    | none => s.acceptTargetData i x f

/-- The event TARGET_DATA. -/
def targetDataEvent (t : Target) (s : State) : Option State :=
  (s.takeKind (targetPort t) kindData).map fun (f, u) => u.takeTargetFrame t f (u.targetDataRule t f)

/-- TARGET_DATA (R65). -/
def execTargetData (t : Target) (s : State) : Host.Outcome State Fault Refusal := event (targetDataEvent t) s

/-! ## STATUS and ABORT_DONE from a target -/

/-- The fields of a target's STATUS that the bridge keeps (R68, R69). -/
def readStatus (f : List Byte) : ParkedStatus :=
  { code := statusCode f, residue := statusResidue f, detail := statusDetail f, cells := cellsFor f.length }

/-- A target's STATUS as it is forwarded (R68). -/
def forwardedStatus (x : Exchange) (k : ParkedStatus) : Frame :=
  { initiator := x.initiator, tag := x.tag, body := .status k.code true (residueAdjusted x k.residue) x.residue k.detail }

/-- A target's STATUS is queued in its own cells as the closing frame, and the entry is freed (R68, R69, R82). -/
def State.deliverStatus (s : State) (i : EntryIndex) (x : Exchange) (k : ParkedStatus) : State :=
  ((s.setExchange i { x with parked := none }).enqueue .i (s.ofEntry i (.stored (forwardedStatus x k) k.cells))).freeEntry i

/-- An accepted STATUS (R68): forwarded at once, or parked behind waiting DATA (R69). -/
def State.acceptStatus (s : State) (i : EntryIndex) (x : Exchange) (k : ParkedStatus) : State :=
  if x.dataWaiting = 0 then s.deliverStatus i x k
  else s.setExchange i { x with deadline := none, parked := some k }

/-- A well-formed STATUS on an entry in ABORTING (R82). -/
def State.endAbortByStatus (s : State) (i : EntryIndex) (x : Exchange) (f : List Byte) : State :=
  if x.closed then (s.discard f).freeEntry i else s.deliverStatus i x (readStatus f)

/-- The rule of a STATUS that matched (R68, R69, R81, R82). -/
def State.statusRule (s : State) (t : Target) (f : List Byte) (i : EntryIndex) (x : Exchange) (_ : Routing) : State :=
  if x.parked.isSome then s.afterStatus t i f
  else if x.state = .aborting then
    if statusFormOk f then s.endAbortByStatus i x f else s.discard f
  else if statusFormOk f then s.acceptStatus i x (readStatus f)
  else (s.discard f).phaseViolation i x .form

/-- The event TARGET_STATUS. -/
def targetStatusEvent (t : Target) (s : State) : Option State :=
  (s.takeKind (targetPort t) kindStatus).map fun (f, u) => u.takeTargetFrame t f (u.statusRule t f)

/-- TARGET_STATUS (R68, R69, R82). -/
def execTargetStatus (t : Target) (s : State) : Host.Outcome State Fault Refusal := event (targetStatusEvent t) s

/-- A well-formed ABORT_DONE on an entry in ABORTING (R83). -/
def State.endAbortByDone (s : State) (i : EntryIndex) (x : Exchange) (f : List Byte) : State :=
  if x.closed then (s.discard f).freeEntry i
  else (s.enqueue .i (s.ofEntry i (.stored (abortDoneFrame x) (cellsFor f.length)))).freeEntry i

/-- The rule of an ABORT_DONE that matched (R69, R81, R83). -/
def State.abortDoneRule (s : State) (t : Target) (f : List Byte) (i : EntryIndex) (x : Exchange) (_ : Routing) : State :=
  if x.parked.isSome then s.discard f
  else if x.state = .aborting then
    if abortDoneFormOk f then s.endAbortByDone i x f else s.discard f
  else (s.discard f).postStaleTarget t f .noAbort (some (s.refOf i))

/-- The event TARGET_ABORT_DONE. -/
def targetAbortDoneEvent (t : Target) (s : State) : Option State :=
  (s.takeKind (targetPort t) kindAbortDone).map fun (f, u) => u.takeTargetFrame t f (u.abortDoneRule t f)

/-- TARGET_ABORT_DONE (R83). -/
def execTargetAbortDone (t : Target) (s : State) : Host.Outcome State Fault Refusal := event (targetAbortDoneEvent t) s

/-! ## DATA from an initiator -/

/-- The tests of initiator DATA against the books of its entry (R64, R137), once its direction has been judged. That OFFSET comes before
OVER_WINDOW is the model's choice (log entry 31). -/
def windowViolation (x : Exchange) (f : List Byte) : Option ViolationDetail :=
  if dataOffset f ≠ x.moved then some .offset
  else if x.proceeded.getD 0 < x.moved + dataLength f then some .overWindow
  else none

/-- The detail of the check initiator DATA fails in ISSUED or MOVING (R62, R64). R64 does not order its checks: that DIRECTION comes before OFFSET
and OFFSET before OVER_WINDOW is the model's choice (log entry 31). -/
def initiatorDataViolation (x : Exchange) (f : List Byte) : Option ViolationDetail :=
  if !dataFormOk f then some .form
  else if x.direction ≠ .dirOut then some .direction
  else windowViolation x f

/-- The detail of the check a body frame fails in MGMT_BODY (R137). -/
def bodyViolation (x : Exchange) (f : List Byte) : Option ViolationDetail :=
  if !dataFormOk f then some .form else windowViolation x f

/-- The detail of initiator DATA on an entry that takes none: FORM by R62, else DIRECTION (R66). On an entry with a parked STATUS R69 names no
detail: that DIRECTION is given there too is log entry 20. -/
def unwantedViolation (f : List Byte) : ViolationDetail := if !dataFormOk f then .form else .direction

/-- Initiator DATA accepted toward the target (R64). -/
def State.acceptInitiatorData (s : State) (i : EntryIndex) (x : Exchange) (g : Routing) (f : List Byte) : State :=
  let forwarded : Frame := { initiator := 0, tag := downstreamTag (s.refOf i), body := .data (dataOffset f) (dataPayload f) }
  (s.setExchange i { x with moved := x.moved + dataLength f }).enqueue (targetPort g.link)
    (s.ofEntry i (.stored forwarded (cellsFor f.length)))

/-- The exchange after an accepted body frame (R137): complete, it is in MGMT_ANSWER without its body deadline. -/
def Exchange.withBodyFrame (x : Exchange) (f : List Byte) : Exchange :=
  let longer := { x with moved := x.moved + dataLength f, bodyFrames := x.bodyFrames ++ [f] }
  if longer.moved = x.length then { longer with state := .mgmtAnswer, deadline := none } else longer

/-- An accepted body frame (R137): the last one takes the entry to MGMT_ANSWER and performs its operation. -/
def State.acceptBody (s : State) (i : EntryIndex) (x : Exchange) (f : List Byte) : State :=
  let taken := s.setExchange i (x.withBodyFrame f)
  if x.moved + dataLength f = x.length then taken.performOperation i (x.withBodyFrame f) else taken

/-- Body DATA (R137). -/
def State.bodyRule (s : State) (i : EntryIndex) (x : Exchange) (f : List Byte) : State :=
  match bodyViolation x f with
  | some d => (s.discard f).phaseViolation i x d
  | none => s.acceptBody i x f

/-- Initiator DATA on a held entry (R66). -/
def State.postHeldData (s : State) (i : EntryIndex) (f : List Byte) : State :=
  s.post { s.alertOf (.staleFrame .held) with
    link := some .i, initiator := some (frameInitiator f), tag := some (frameTag f), entry := some (s.refOf i) }

/-- Initiator DATA on an entry in ISSUED or MOVING (R64). -/
def State.movingRule (s : State) (i : EntryIndex) (x : Exchange) (g : Routing) (f : List Byte) : State :=
  match initiatorDataViolation x f with
  | some d => (s.discard f).phaseViolation i x d
  | none => s.acceptInitiatorData i x g f

/-- Initiator DATA that matched an entry (R64, R66, R69, R137). -/
def State.initiatorDataRule (s : State) (i : EntryIndex) (x : Exchange) (f : List Byte) : State :=
  if x.parked.isSome then (s.discard f).phaseViolation i x (unwantedViolation f)
  else
    match x.state with
    | .held => (s.discard f).postHeldData i f
    | .mgmtBody => s.bodyRule i x f
    | .aborting => s.discard f
    | .replying => (s.discard f).phaseViolation i x (unwantedViolation f)
    | .mgmtAnswer => (s.discard f).phaseViolation i x (unwantedViolation f)
    | .issued | .moving =>
      match x.routing with
      | some g => s.movingRule i x g f
      | none => (s.discard f).phaseViolation i x (unwantedViolation f)

/-- The open exchange an initiator's frame matches (R15). -/
def State.matchInitiator (s : State) (f : List Byte) : Option (EntryIndex × Exchange) :=
  match s.openEntry (frameInitiator f) (frameTag f) with
  | none => none
  | some i => (s.entry i).exchange.map fun x => (i, x)

/-- Exchange control takes a DATA from port I (R15, R62, R67). -/
def State.takeInitiatorData (s : State) (f : List Byte) : State :=
  if isShort f then (s.discard f).postStaleLink .i .shortFrame
  else
    match s.matchInitiator f with
    | none => (s.discard f).postStaleInitiator f .noExchange
    | some (i, x) => s.initiatorDataRule i x f

/-- The event INITIATOR_DATA. -/
def initiatorDataEvent (s : State) : Option State :=
  (s.takeKind .i kindData).map fun (f, t) => t.takeInitiatorData f

/-- INITIATOR_DATA (R64, R66, R67, R137). -/
def execInitiatorData (s : State) : Host.Outcome State Fault Refusal := event initiatorDataEvent s

end Sys2Proof.Machine
end

