-- ==== Sys2Proof/Machine/Egress.lean ====
section
/-! DEFINITION. The egress side of chapter 8, with what a completed transmission brings about: command sent (R13), DATA waiting (R74), runs
(R106, R107, R140), the ALERT frame (R160) and the warm reset (R147, R148). -/

namespace Sys2Proof.Machine

/-! ## The check at the head (R74, R75) -/

/-- Port I's check of a DATA descriptor (R74), and the target ports' check of every descriptor (R75). -/
def State.passesHead (s : State) (p : Port) (d : Descriptor) : Bool :=
  match d.entry with
  | none => true
  | some r =>
    match p with
    | .i => !d.isData || (s.exchangeAt r).any fun x => !x.closed
    | .t0 => (s.exchangeAt r).isSome
    | .t1 => (s.exchangeAt r).isSome

/-! ## The frame to be sent (R121, R123, R106) -/

/-- Payload of a DATA descriptor that is cut into pieces of M bytes (R123). A run is at most M bytes and is sent whole (R106). -/
def Descriptor.splitPayload (d : Descriptor) : Option (List Byte) :=
  match d.content with
  | .stored { body := .data _ payload, .. } _ => some payload
  | _ => none

/-- The next transmission's progress, when pieces remain after it (R123). -/
def Descriptor.progressAfter (d : Descriptor) (m : Nat) : Option Nat :=
  match d.splitPayload with
  | some payload => if d.progress + m < payload.length then some (d.progress + m) else none
  | none => none

/-- Initiator id and tag of the exchange a run belongs to (R106). -/
def State.runOwner (s : State) (d : Descriptor) : InitiatorId × Tag :=
  match d.entry.bind s.exchangeAt with
  | some x => (x.initiator, x.tag)
  | none => (0, 0#16)

/-- The frame a descriptor sends next to a peer of segment M: a piece of its DATA (R123), or its one frame. -/
def State.frameToSend (s : State) (d : Descriptor) (m : Nat) : Frame :=
  match d.content with
  | .stored { initiator := n, tag := t, body := .data off payload } _ =>
    { initiator := n, tag := t, body := .data (off + d.progress) ((payload.drop d.progress).take m) }
  | .stored f _ => f
  | .run off payload => { initiator := (s.runOwner d).1, tag := (s.runOwner d).2, body := .data off payload }
  | .made f => f
  | .alert => s.alertFrame

/-! ## Completion of a descriptor -/

/-- The REQUEST of an entry has been transmitted (R13). -/
def State.markSent (s : State) (r : EntryRef) : State :=
  match s.exchangeAt r with
  | none => s
  | some x =>
    match x.routing with
    | none => s
    | some g =>
      if x.storedRequest = some .inQueue then
        s.setExchange r.index { x with storedRequest := none, routing := some { g with commandSent := true } }
      else s

/-- The last DATA of an exchange has left port I (R69, R107, R140): a parked STATUS is queued, or the closing STATUS of a reply or
management exchange. -/
def State.dataLeft (s : State) (i : EntryIndex) (x : Exchange) : State :=
  match x.parked, x.snapshot, x.answer with
  | some k, _, _ => s.deliverStatus i x k
  | none, some n, _ => s.closeAndFree i x n.code
  | none, none, some a => s.closeManagement i x a.code false
  | none, none, none => s

/-- DATA waiting falls by one, with what follows when it reaches 0 (R69, R74, R106). -/
def State.dataGone (s : State) (i : EntryIndex) (x : Exchange) : State :=
  let fewer := { x with dataWaiting := x.dataWaiting - 1 }
  let t := s.setExchange i fewer
  if fewer.dataWaiting = 0 then t.dataLeft i fewer else t

/-- Bytes moved of an exchange with a snapshot or an answer rises by a transmitted run's length (R106, R140), within its bound (R61; log entry
15). -/
def Exchange.withRun (x : Exchange) (payload : List Byte) : Exchange :=
  if x.snapshot.isSome || x.answer.isSome then { x with moved := max x.moved (min (x.moved + payload.length) x.moveBound) } else x

/-- A DATA descriptor of port I has been sent to its last piece (R74, R106). -/
def State.dataSent (s : State) (d : Descriptor) : State :=
  match d.entry with
  | none => s
  | some r =>
    match s.exchangeAt r with
    | none => s
    | some x =>
      match d.content with
      | .run _ payload => s.dataGone r.index (x.withRun payload)
      | _ => s.dataGone r.index x

/-! ## Warm reset (R147, R148) -/

/-- An ABORT that warm reset spares: queued for an entry in ABORTING (R147). -/
def State.spares (s : State) (d : Descriptor) : Bool :=
  d.isAbort && (d.entry.bind s.exchangeAt).any fun x => x.state == .aborting

/-- Warm reset's purge of one port's queue: the spared ABORTs keep their places and cease to record an entry. -/
def State.purgeForReset (s : State) (p : Port) : State :=
  let r := s.port p
  let kept := (r.egress.filter s.spares).map fun d => { d with entry := none }
  (s.setPort p { r with egress := kept }).release (queueCells (r.egress.filter fun d => !s.spares d))

/-- The ABORT that warm reset queues: it records no entry. -/
def State.queueResetAbort (s : State) (i : EntryIndex) (g : Routing) : State :=
  s.enqueue (targetPort g.link) { content := .made (abortFrame (s.refOf i)) }

/-- What warm reset does to one entry (R147). -/
def State.resetEntry (s : State) (i : EntryIndex) : State :=
  match (s.entry i).exchange with
  | none => s
  | some x =>
    if x.state = .aborting then
      if x.closed then s.freeEntry i else s.closeAndFree i x codeBridgeReset
    else
      match x.targetActive with
      | some g => ((s.queueStatus i x codeBridgeReset).queueResetAbort i g).freeEntry i
      | none => s.closeAndFree i x codeBridgeReset

/-- A port at a warm reset: FAILED enters TRAINING, any other keeps its state (R126, R148). -/
def PortRecord.afterWarmReset (r : PortRecord) : PortRecord :=
  if r.state = .failed then { r with state := .training, initFailures := 0 } else r

/-- The other blocks at a warm reset (R148). -/
def State.resetBlocks (s : State) : State :=
  ({ s with
    holdQueue := [], startList := [], lease := none, warmPending := false,
    alerts := [], dropped := 0, batch := none, sequence := 0#16,
    portI := s.portI.afterWarmReset, portT0 := s.portT0.afterWarmReset, portT1 := s.portT1.afterWarmReset } : State).startResync

/-- The warm reset takes effect (R147, R148). -/
def State.takeWarmReset (s : State) : State :=
  (allEntries.foldl State.resetEntry (((s.purgeForReset .i).purgeForReset .t0).purgeForReset .t1)).resetBlocks

/-! ## Transmission (R122) -/

/-- What the last piece of a descriptor brings about, the descriptor having left the queue and its cells being free. -/
def State.completed (s : State) (p : Port) (d : Descriptor) : State :=
  let data := if p = .i ∧ d.isData = true then s.dataSent d else s
  let sent := match d.entry with
    | some r => if d.isRequest then data.markSent r else data
    | none => data
  let alerted := if d.isAlert then sent.alertSent else sent
  if d.warmMark then alerted.takeWarmReset else alerted

/-- One transmission by a port (R122, R123): one frame or piece, one credit. -/
def State.sendHead (s : State) (p : Port) (d : Descriptor) (rest : List Descriptor) : State :=
  let r := s.port p
  let m := s.segment p
  let spent := { r with peerCredit := r.peerCredit - 1, wire := r.wire ++ [(s.frameToSend d m).encode] }
  match d.progressAfter m with
  | some n => s.setPort p { spent with egress := { d with progress := n } :: rest }
  | none => ((s.setPort p { spent with egress := rest }).release d.cells).completed p d

/-- The event TRANSMISSION: the port is UP with peer credit, and the head passes its check. -/
def transmissionEvent (p : Port) (s : State) : Option State :=
  match (s.port p).egress with
  | [] => none
  | d :: rest => if s.isUp p ∧ 0 < (s.port p).peerCredit ∧ s.passesHead p d = true then some (s.sendHead p d rest) else none

/-- TRANSMISSION (R122). -/
def execTransmission (p : Port) (s : State) : Host.Outcome State Fault Refusal := event (transmissionEvent p) s

/-! ## Discard at the head (R74, R75) -/

/-- DATA waiting falls for a discarded DATA descriptor whose entry is in use at the recorded incarnation; a parked STATUS follows (R74). -/
def State.dataDropped (s : State) (d : Descriptor) : State :=
  match d.entry with
  | none => s
  | some r =>
    match s.exchangeAt r with
    | none => s
    | some x =>
      let fewer := { x with dataWaiting := x.dataWaiting - 1 }
      let t := s.setExchange r.index fewer
      match x.parked with
      | some k => if fewer.dataWaiting = 0 then t.deliverStatus r.index fewer k else t
      | none => t

/-- The head is discarded: it leaves the queue, its cells are freed, no credit is taken. -/
def State.dropHead (s : State) (p : Port) (d : Descriptor) (rest : List Descriptor) : State :=
  let t := (s.setPort p { s.port p with egress := rest }).release d.cells
  if p = .i ∧ d.isData = true then t.dataDropped d else t

/-- The event HEAD_DISCARD: the head fails its check (log entry 25). The discard takes no credit, but at a peer credit of 0 the head waits and
its cells stay stored (R122, R125). -/
def headDiscardEvent (p : Port) (s : State) : Option State :=
  match (s.port p).egress with
  | [] => none
  | d :: rest => if s.isUp p ∧ 0 < (s.port p).peerCredit ∧ s.passesHead p d = false then some (s.dropHead p d rest) else none

/-- HEAD_DISCARD (R74, R75). -/
def execHeadDiscard (p : Port) (s : State) : Host.Outcome State Fault Refusal := event (headDiscardEvent p) s

end Sys2Proof.Machine
end

