-- ==== Sys2Proof/Machine/Expiries.lean ====
section
/-! DEFINITION. The expiries of the hold, body, lease, resend and resync deadlines, and the tick of the millisecond clock (R1, R95, R138, R142,
R156, R160). -/

namespace Sys2Proof.Machine

/-- The event of a hold deadline's expiry (R95). -/
def holdExpiryEvent (i : EntryIndex) (s : State) : Option State :=
  (s.expired i .hold).map fun x => s.expireHold i x

/-- HOLD_EXPIRY (R95). -/
def execHoldExpiry (i : EntryIndex) (s : State) : Host.Outcome State Fault Refusal := event (holdExpiryEvent i) s

/-- The event of a body deadline's expiry (R138). -/
def bodyExpiryEvent (i : EntryIndex) (s : State) : Option State :=
  (s.expired i .body).map fun x => (s.closeAndFree i x codeTimedOut).post (s.timeoutAlert i x .body)

/-- BODY_DEADLINE_EXPIRY (R138). -/
def execBodyDeadlineExpiry (i : EntryIndex) (s : State) : Host.Outcome State Fault Refusal := event (bodyExpiryEvent i) s

/-- The event of the lease deadline's expiry (R142). -/
def leaseExpiryEvent (s : State) : Option State :=
  match s.lease with
  | some l => if reached s.clock l.deadline then some (s.endLease .expired) else none
  | none => none

/-- LEASE_EXPIRY (R142). -/
def execLeaseExpiry (s : State) : Host.Outcome State Fault Refusal := event leaseExpiryEvent s

/-- The event of the resend deadline's expiry (R160). -/
def resendExpiryEvent (s : State) : Option State :=
  match s.batch with
  | some b =>
    match b.resend with
    | some due => if reached s.clock due then some (s.resendBatch b) else none
    | none => none
  | none => none

/-- RESEND_DEADLINE_EXPIRY (R160). -/
def execResendDeadlineExpiry (s : State) : Host.Outcome State Fault Refusal := event resendExpiryEvent s

/-- The event of resync's completion (R156). -/
def resyncCompletionEvent (s : State) : Option State :=
  match s.resync with
  | some due => if reached s.clock due then some s.completeResync else none
  | none => none

/-- RESYNC_COMPLETION (R156). -/
def execResyncCompletion (s : State) : Host.Outcome State Fault Refusal := event resyncCompletionEvent s

/-- The clock advances by one and wraps (R1). -/
def clockTick (s : State) : Option State := some { s with clock := s.clock + 1#32 }

/-- MILLISECOND_CLOCK_ADVANCE (R1). -/
def execMillisecondClockAdvance (s : State) : Host.Outcome State Fault Refusal := plainEvent clockTick s

end Sys2Proof.Machine
end

