-- ==== Sys2Proof/Machine/Links.lean ====
section
/-! DEFINITION. Chapter 9 and the ingress side of chapter 8: bring-up, teardown, arriving frames, CREDIT, and the frames the sorter and exchange
control discard. -/

namespace Sys2Proof.Machine

/-! ## Teardown (R130) -/

/-- Cells of the frames that wait on a port for their consumer. -/
def PortRecord.arrivedCells (r : PortRecord) : Nat := (r.arrived.map fun f => cellsFor f.length).sum

/-- What a teardown of T does to one entry routed to it (R132). -/
def State.endRouted (t : Target) (s : State) (i : EntryIndex) : State :=
  match (s.entry i).exchange with
  | none => s
  | some x =>
    match x.routing with
    | none => s
    | some g =>
      if g.link ≠ t ∨ x.parked.isSome = true then s
      else if x.state = .aborting ∧ x.closed = true then s.freeEntry i
      else s.closeAndFree i x codeLinkLost

/-- The DATA exchanges routed to a target link that is torn down, lowest entry first (R132). -/
def State.endTargetLink (s : State) (t : Target) : State := allEntries.foldl (State.endRouted t) s

/-- What a teardown of port I does to one entry (R133); the purge has taken its DATA from port I's queue (R124). -/
def State.endUnheard (s : State) (i : EntryIndex) : State :=
  match (s.entry i).exchange with
  | none => s
  | some x =>
    if x.state = .aborting then s.setExchange i { x with closed := true, dataWaiting := 0 }
    else
      match x.targetActive with
      | some g => s.enterAborting i { x with dataWaiting := 0 } g .initiator true
      | none => (s.withdrawUnseen i x).freeEntry i

/-- Every exchange when port I is torn down (R133): no closing frame, the hold queue and the start list empty, no warm reset pending. That the
entries are taken lowest first, so that their ABORTs join a target's queue in that order, is the model's choice (log entry 28). -/
def State.endInitiatorLink (s : State) : State :=
  { allEntries.foldl State.endUnheard s with holdQueue := [], startList := [], warmPending := false }

/-- The exchanges and the lease that depend on a torn-down port (R132, R133, R134). -/
def State.endDependants (s : State) (p : Port) : State :=
  match p with
  | .i => s.endInitiatorLink.endLease .linkLost
  | .t0 => s.endTargetLink .t0
  | .t1 => s.endTargetLink .t1

/-- The port's own part of a teardown (R130, steps 1 to 4). -/
def State.clearPort (s : State) (p : Port) (next : PortState) : State :=
  let r := s.port p
  (s.setPort p { r with
    state := next, initDeadline := none, peerSegment := none, peerCredit := 0, offered := 0, announced := 0, owed := 0,
    egress := [], arrived := [] }).release (queueCells r.egress + r.reservedCells + r.arrivedCells)

/-- Teardown of a port in UP (R130), which leaves it in the state `next`. -/
def State.teardown (s : State) (p : Port) (next : PortState) (why : LinkDetail) : State :=
  ((s.clearPort p next).postLink p why).endDependants p

/-! ## Signals and INIT (R127 to R129) -/

/-- The INIT the part sends (R127). -/
def ownInit (p : Port) (offered : Nat) : Frame :=
  { initiator := 0, tag := 0#16, body := .init (ownRole p) Config.ownSegment offered Config.initRevision }

/-- Offered credit of an INIT: the lesser of the port's limit and the free cells divided by nine (R113, R127). -/
def State.offer (s : State) (p : Port) : Nat := min (creditLimit p) (s.freeCells / Config.creditCells)

/-- The port enters INIT_WAIT: it reserves its offered credit, sends its INIT and sets the INIT wait deadline (R127). -/
def State.launchInit (s : State) (p : Port) : State :=
  let n := s.offer p
  let r := s.port p
  (s.setPort p { r with
    state := .initWait, initDeadline := some (s.after Config.initWaitMs), offered := n,
    wire := r.wire ++ [(ownInit p n).encode] }).takeCells (Config.creditCells * n)

/-- The event SIGNAL_PRESENT: DOWN becomes TRAINING. -/
def signalPresentEvent (p : Port) (s : State) : Option State :=
  if (s.port p).state = .down then some (s.setPort p { s.port p with state := .training }) else none

/-- SIGNAL_PRESENT (R127). -/
def execSignalPresent (p : Port) (s : State) : Host.Outcome State Fault Refusal := plainEvent (signalPresentEvent p) s

/-- The event LANE_LOCK: TRAINING becomes INIT_WAIT. -/
def laneLockEvent (p : Port) (s : State) : Option State :=
  if (s.port p).state = .training then some (s.launchInit p) else none

/-- LANE_LOCK (R127). -/
def execLaneLock (p : Port) (s : State) : Host.Outcome State Fault Refusal := plainEvent (laneLockEvent p) s

/-- The offered credit is withdrawn and the INIT wait deadline removed, on the way to another state (R128, R129). -/
def State.leaveInitWait (s : State) (p : Port) (next : PortState) (failures : Nat) : State :=
  let r := s.port p
  (s.setPort p { r with state := next, initDeadline := none, offered := 0, initFailures := failures }).release
    (Config.creditCells * r.offered)

/-- The event SIGNAL_LOSS: a teardown in UP (R130), else the port enters DOWN (R129). -/
def signalLossEvent (p : Port) (s : State) : Option State :=
  if s.isUp p then some (s.teardown p .down .signalLoss) else some (s.leaveInitWait p .down 0)

/-- SIGNAL_LOSS (R129, R130). -/
def execSignalLoss (p : Port) (s : State) : Host.Outcome State Fault Refusal := event (signalLossEvent p) s

/-- The INIT wait deadline of a port has been reached (R1). -/
def State.initWaitOver (s : State) (p : Port) : Bool :=
  (s.port p).state == .initWait && (s.port p).initDeadline.any (reached s.clock)

/-- The event INIT_WAIT_EXPIRY (R129). -/
def initWaitExpiryEvent (p : Port) (s : State) : Option State :=
  let failures := (s.port p).initFailures + 1
  if s.initWaitOver p then
    if failures < Config.initFailureLimit then some (s.leaveInitWait p .training failures)
    else some ((s.leaveInitWait p .failed failures).postLink p .noInit)
  else none

/-- INIT_WAIT_EXPIRY (R129). -/
def execInitWaitExpiry (p : Port) (s : State) : Host.Outcome State Fault Refusal := event (initWaitExpiryEvent p) s

/-- An accepted INIT brings the port UP (R128). -/
def State.enterUp (s : State) (p : Port) (f : List Byte) : State :=
  let r := s.port p
  (s.setPort p { r with
    state := .up, initDeadline := none, initFailures := 0, peerSegment := some (64 * initSegmentUnits f),
    peerCredit := initCredit f, announced := r.announced + r.offered, offered := 0 }).postLink p .up

/-- The peer's INIT is judged in INIT_WAIT (R128). -/
def State.judgeInit (s : State) (p : Port) (f : List Byte) : State :=
  match initFault (ownRole p) f with
  | none => s.enterUp p f
  | some d => (s.leaveInitWait p .failed (s.port p).initFailures).postLink p d

/-- An INIT arrives: judged in INIT_WAIT (R128); in UP a peer restart, which is a teardown, a second bring-up and the same judgement
(R130). In any other state no frame is received (R127, R129), and a frame of another kind is no INIT (log entries 17 and 22). -/
def receiveInit (p : Port) (f : List Byte) (s : State) : Option State :=
  if !isInitFrame f then none
  else
    match (s.port p).state with
    | .initWait => some (s.judgeInit p f)
    | .up => some (((s.teardown p .training .peerRestart).launchInit p).judgeInit p f)
    | .down => none
    | .training => none
    | .failed => none

/-- INIT_ARRIVAL (R128). -/
def execInitArrival (p : Port) (f : List Byte) (s : State) : Host.Outcome State Fault Refusal := event (receiveInit p f) s

/-- PEER_RESTART (R130). -/
def execPeerRestart (p : Port) (f : List Byte) (s : State) : Host.Outcome State Fault Refusal := event (receiveInit p f) s

/-! ## CREDIT (R117 to R119) -/

/-- A CREDIT that is ignored (R118). -/
def State.ignoresCredit (s : State) (p : Port) (f : List Byte) : Bool :=
  !isCreditFrame f || !s.isUp p || decide (f.length ≠ 8) || decide (creditIncrement f = 0)

/-- The event CREDIT_ARRIVAL (R118, R119). -/
def creditArrivalEvent (p : Port) (f : List Byte) (s : State) : Option State :=
  let r := s.port p
  if s.ignoresCredit p f then none
  else if Config.peerCreditMax < r.peerCredit + creditIncrement f then
    some ((s.postOverrun p .peerCredit).teardown p .training .creditOverrun)
  else some (s.setPort p { r with peerCredit := r.peerCredit + creditIncrement f })

/-- CREDIT_ARRIVAL (R118, R119). -/
def execCreditArrival (p : Port) (f : List Byte) (s : State) : Host.Outcome State Fault Refusal := event (creditArrivalEvent p f) s

/-- The CREDIT a port sends (R117). -/
def ownCredit (n : Nat) : Frame := { initiator := 0, tag := 0#16, body := .credit n }

/-- The event CREDIT_SEND (R117). -/
def creditSendEvent (p : Port) (s : State) : Option State :=
  let r := s.port p
  if s.isUp p ∧ 0 < r.owed then
    some (s.setPort p { r with announced := r.announced + r.owed, owed := 0, wire := r.wire ++ [(ownCredit r.owed).encode] })
  else none

/-- CREDIT_SEND (R117). -/
def execCreditSend (p : Port) (s : State) : Host.Outcome State Fault Refusal := plainEvent (creditSendEvent p) s

/-! ## Credited frames (R114, R115) -/

/-- A credited frame taken against a credit (R114): its chain is stored and the rest of the nine cells returns to free; a frame longer
than nine cells is not stored. -/
def State.storeArrival (s : State) (p : Port) (f : List Byte) : State :=
  let r := s.port p
  if Config.longestFrame < f.length then
    ((s.setPort p { r with announced := r.announced - 1 }).release Config.creditCells).postStaleLink p .oversize
  else
    (s.setPort p { r with announced := r.announced - 1, arrived := r.arrived ++ [f] }).release
      (Config.creditCells - cellsFor f.length)

/-- The event CREDITED_FRAME_ARRIVAL (R114, R115). -/
def creditedArrivalEvent (p : Port) (f : List Byte) (s : State) : Option State :=
  if !isCreditedFrame f || !s.isUp p then none
  else if (s.port p).announced = 0 then some ((s.postOverrun p .noCredit).teardown p .training .creditOverrun)
  else some (s.storeArrival p f)

/-- CREDITED_FRAME_ARRIVAL (R114, R115). -/
def execCreditedFrameArrival (p : Port) (f : List Byte) (s : State) : Host.Outcome State Fault Refusal :=
  event (creditedArrivalEvent p f) s

/-! ## Frames that are discarded before they are matched (R8, R73) -/

/-- Detail of a frame the sorter discards: UNKNOWN_KIND, or SHORT_FRAME for a frame of no byte (R8; log entry 8). -/
def sorterDetail (f : List Byte) : StaleDetail := if f.isEmpty then .shortFrame else .unknownKind

/-- The event UNKNOWN_KIND_DISCARD. -/
def unknownKindEvent (p : Port) (s : State) : Option State :=
  (s.takeNext .sorter p).map fun (f, t) => (t.discard f).postStaleLink p (sorterDetail f)

/-- UNKNOWN_KIND_DISCARD (R8). -/
def execUnknownKindDiscard (p : Port) (s : State) : Host.Outcome State Fault Refusal := event (unknownKindEvent p) s

/-- Kinds that are not carried in their direction on a link (R73). -/
def wrongKind (p : Port) (kind : Byte) : Bool :=
  match p with
  | .i => [kindProceed, kindStatus, kindAbortDone, kindAlert].contains kind
  | .t0 => [kindRequest, kindAbort, kindAlert].contains kind
  | .t1 => [kindRequest, kindAbort, kindAlert].contains kind

/-- The WRONG_LINK alert (R73), or SHORT_FRAME for a frame too short to hold the fields it names (R62; log entry 8). -/
def State.postWrongLink (s : State) (p : Port) (f : List Byte) : State :=
  if isShort f then s.postStaleLink p .shortFrame
  else
    s.post { s.alertOf (.staleFrame .wrongLink) with
      link := some p, frameKind := some (byteAt f 0), initiator := some (frameInitiator f), tag := some (frameTag f) }

/-- The event WRONG_LINK_FRAME. -/
def wrongLinkEvent (p : Port) (s : State) : Option State :=
  match s.takeNext .exchangeControl p with
  | some (f, t) => if wrongKind p (byteAt f 0) then some ((t.discard f).postWrongLink p f) else none
  | none => none

/-- WRONG_LINK_FRAME (R73). -/
def execWrongLinkFrame (p : Port) (s : State) : Host.Outcome State Fault Refusal := event (wrongLinkEvent p) s

end Sys2Proof.Machine
end

