-- ==== Sys2Proof/Machine/Operations.lean ====
section
/-! DEFINITION. The management operations as commands: each is the event that performs it, a verdict or the last body frame (R139; log
entry 3). -/

namespace Sys2Proof.Machine

/-- The operation a parameter block names by its first byte. -/
def opNamedBy (params : List Byte) : Option MgmtOp := params.head?.bind mgmtOpOf

/-- Whether a verdict's management exchange is performed in the verdict (R136). -/
def performsAtVerdict (q : Request) : Bool := !(q.direction == .dirOut && decide (0 < q.length))

/-- The operation the next verdict performs, if it performs one (R136, R139). -/
def State.verdictPerforms (s : State) : Option MgmtOp :=
  match s.takeNext .admission .i with
  | none => none
  | some (f, t) =>
    if isShort f then none
    else
      match t.judge f with
      | .manage _ => if performsAtVerdict (readRequest f) then opNamedBy (readRequest f).params else none
      | _ => none

/-- The operation the next initiator DATA performs, if it is the last body frame of one (R137, R139). -/
def State.bodyPerforms (s : State) : Option MgmtOp :=
  match s.takeKind .i kindData with
  | none => none
  | some (f, t) =>
    if isShort f then none
    else
      match t.matchInitiator f with
      | none => none
      | some (_, x) =>
        if x.parked.isNone && x.state == .mgmtBody && (bodyViolation x f).isNone && decide (x.moved + dataLength f = x.length) then
          opNamedBy (requestParams x.requestBytes)
        else none

/-- The event that performs an operation: the verdict or body frame that would perform it now, whole (R139). -/
def performanceEvent (op : MgmtOp) (w : PerformedAt) (s : State) : Option State :=
  match w with
  | .verdict => if s.verdictPerforms = some op then verdictEvent s else none
  | .lastBodyFrame => if s.bodyPerforms = some op then initiatorDataEvent s else none

/-- IDENTIFY (R146). -/
def execIdentify (w : PerformedAt) (s : State) : Host.Outcome State Fault Refusal := event (performanceEvent .identify w) s

/-- CLAIM (R143). -/
def execClaim (w : PerformedAt) (s : State) : Host.Outcome State Fault Refusal := event (performanceEvent .claim w) s

/-- RENEW (R144). -/
def execRenew (w : PerformedAt) (s : State) : Host.Outcome State Fault Refusal := event (performanceEvent .renew w) s

/-- RELEASE_LEASE (R144). -/
def execReleaseLease (w : PerformedAt) (s : State) : Host.Outcome State Fault Refusal := event (performanceEvent .releaseLease w) s

/-- READ_ENTRY (R145). -/
def execReadEntry (w : PerformedAt) (s : State) : Host.Outcome State Fault Refusal := event (performanceEvent .readEntry w) s

/-- WRITE_ENTRY (R150). -/
def execWriteEntry (w : PerformedAt) (s : State) : Host.Outcome State Fault Refusal := event (performanceEvent .writeEntry w) s

/-- CLEAR_STAGING (R151). -/
def execClearStaging (w : PerformedAt) (s : State) : Host.Outcome State Fault Refusal := event (performanceEvent .clearStaging w) s

/-- COMMIT (R152, R153, R154). -/
def execCommit (w : PerformedAt) (s : State) : Host.Outcome State Fault Refusal := event (performanceEvent .commit w) s

/-- READ_EXCHANGE (R145). -/
def execReadExchange (w : PerformedAt) (s : State) : Host.Outcome State Fault Refusal := event (performanceEvent .readExchange w) s

/-- HOLD_LIST (R103). -/
def execHoldList (w : PerformedAt) (s : State) : Host.Outcome State Fault Refusal := event (performanceEvent .holdList w) s

/-- HOLD_DECIDE (R96 to R99). -/
def execHoldDecide (w : PerformedAt) (s : State) : Host.Outcome State Fault Refusal := event (performanceEvent .holdDecide w) s

/-- ALERT_ACK (R161). -/
def execAlertAck (w : PerformedAt) (s : State) : Host.Outcome State Fault Refusal := event (performanceEvent .alertAck w) s

/-- END_EXCHANGE (R89, R90). -/
def execEndExchange (w : PerformedAt) (s : State) : Host.Outcome State Fault Refusal := event (performanceEvent .endExchange w) s

/-- LINK_STATE (R146). -/
def execLinkState (w : PerformedAt) (s : State) : Host.Outcome State Fault Refusal := event (performanceEvent .linkState w) s

/-- WARM_RESET (R147). -/
def execWarmReset (w : PerformedAt) (s : State) : Host.Outcome State Fault Refusal := event (performanceEvent .warmReset w) s

end Sys2Proof.Machine
end

