-- ==== Sys2Proof/Machine/Replies.lean ====
section
/-! DEFINITION. Chapter 7: the start of service of a reply snapshot (R105, R108). -/

namespace Sys2Proof.Machine

/-- Service starts on an entry in REPLYING: one DATA descriptor for each run of M bytes, or the closing STATUS at once for a snapshot of 0
bytes (R105, R108). -/
def State.startService (s : State) (r : EntryRef) (x : Exchange) (n : Snapshot) : State :=
  let runs := runsOf (s.segment .i) n.data.length n.data
  if runs.isEmpty then s.closeAndFree r.index x n.code
  else
    let started := { x with snapshot := some { n with started := true }, dataWaiting := x.dataWaiting + runs.length }
    (s.setExchange r.index started).enqueueAll .i (runDescriptors r 0 runs)

/-- The head of the start list is taken: nothing is queued when its entry is no longer REPLYING at the recorded incarnation, or when its
service has started (R105; log entry 15). -/
def State.serve (s : State) (r : EntryRef) : State :=
  match s.exchangeAt r with
  | none => s
  | some x =>
    match x.snapshot with
    | none => s
    | some n => if x.state = .replying ∧ n.started = false then s.startService r x n else s

/-- The event REPLY_SERVICE_START. -/
def replyServiceEvent (s : State) : Option State :=
  match s.startList with
  | [] => none
  | r :: rest => some (({ s with startList := rest } : State).serve r)

/-- REPLY_SERVICE_START (R105, R108). -/
def execReplyServiceStart (s : State) : Host.Outcome State Fault Refusal := event replyServiceEvent s

end Sys2Proof.Machine
end

