-- ==== Sys2Proof/Machine/Reset.lean ====
section
/-! DEFINITION. The reset pin (R165). -/

namespace Sys2Proof.Machine

/-- The power-on values (R165). The model's own fields, the queue of commands and the counter of the free values, are kept. -/
def State.powerOn (s : State) (pin : Bool) : State :=
  { State.reset with resetPin := pin, pending := s.pending, freeCount := s.freeCount }

/-- POWER_ON_RESET: the release of the reset pin (R165; log entry 4). -/
def execPowerOnReset (s : State) : Host.Outcome State Fault Refusal := .next (s.powerOn false)

/-- RESET_PIN_ASSERTION: everything held is lost, and until the release nothing is received or sent (R165; log entry 4). -/
def execResetPinAssertion (s : State) : Host.Outcome State Fault Refusal := .next (s.powerOn true)

end Sys2Proof.Machine
end

