-- ==== Sys2Proof/Machine/Dispatch.lean ====
section
/-! DEFINITION. The dispatch of the commands: one arm per row of spec/opcode_table.json, each a direct call of its meaning. -/

namespace Sys2Proof.Machine

def exec (i : Instr) (s : State) : Host.Outcome State Fault Refusal :=
  match i with
  | .powerOnReset => Sys2Proof.Machine.execPowerOnReset s
  | .signalPresent p => Sys2Proof.Machine.execSignalPresent p s
  | .laneLock p => Sys2Proof.Machine.execLaneLock p s
  | .signalLoss p => Sys2Proof.Machine.execSignalLoss p s
  | .initWaitExpiry p => Sys2Proof.Machine.execInitWaitExpiry p s
  | .initArrival p f => Sys2Proof.Machine.execInitArrival p f s
  | .peerRestart p f => Sys2Proof.Machine.execPeerRestart p f s
  | .creditArrival p f => Sys2Proof.Machine.execCreditArrival p f s
  | .creditedFrameArrival p f => Sys2Proof.Machine.execCreditedFrameArrival p f s
  | .creditSend p => Sys2Proof.Machine.execCreditSend p s
  | .unknownKindDiscard p => Sys2Proof.Machine.execUnknownKindDiscard p s
  | .wrongLinkFrame p => Sys2Proof.Machine.execWrongLinkFrame p s
  | .verdict => Sys2Proof.Machine.execVerdict s
  | .targetProceed t => Sys2Proof.Machine.execTargetProceed t s
  | .targetData t => Sys2Proof.Machine.execTargetData t s
  | .targetStatus t => Sys2Proof.Machine.execTargetStatus t s
  | .targetAbortDone t => Sys2Proof.Machine.execTargetAbortDone t s
  | .initiatorData => Sys2Proof.Machine.execInitiatorData s
  | .initiatorAbort => Sys2Proof.Machine.execInitiatorAbort s
  | .exchangeDeadlineExpiry e => Sys2Proof.Machine.execExchangeDeadlineExpiry e s
  | .graceExpiry e => Sys2Proof.Machine.execGraceExpiry e s
  | .holdExpiry e => Sys2Proof.Machine.execHoldExpiry e s
  | .bodyDeadlineExpiry e => Sys2Proof.Machine.execBodyDeadlineExpiry e s
  | .leaseExpiry => Sys2Proof.Machine.execLeaseExpiry s
  | .resendDeadlineExpiry => Sys2Proof.Machine.execResendDeadlineExpiry s
  | .resyncCompletion => Sys2Proof.Machine.execResyncCompletion s
  | .replyServiceStart => Sys2Proof.Machine.execReplyServiceStart s
  | .transmission p => Sys2Proof.Machine.execTransmission p s
  | .headDiscard p => Sys2Proof.Machine.execHeadDiscard p s
  | .identify w => Sys2Proof.Machine.execIdentify w s
  | .claim w => Sys2Proof.Machine.execClaim w s
  | .renew w => Sys2Proof.Machine.execRenew w s
  | .releaseLease w => Sys2Proof.Machine.execReleaseLease w s
  | .readEntry w => Sys2Proof.Machine.execReadEntry w s
  | .writeEntry w => Sys2Proof.Machine.execWriteEntry w s
  | .clearStaging w => Sys2Proof.Machine.execClearStaging w s
  | .commit w => Sys2Proof.Machine.execCommit w s
  | .readExchange w => Sys2Proof.Machine.execReadExchange w s
  | .holdList w => Sys2Proof.Machine.execHoldList w s
  | .holdDecide w => Sys2Proof.Machine.execHoldDecide w s
  | .alertAck w => Sys2Proof.Machine.execAlertAck w s
  | .endExchange w => Sys2Proof.Machine.execEndExchange w s
  | .linkState w => Sys2Proof.Machine.execLinkState w s
  | .warmReset w => Sys2Proof.Machine.execWarmReset w s
  | .millisecondClockAdvance => Sys2Proof.Machine.execMillisecondClockAdvance s
  | .resetPinAssertion => Sys2Proof.Machine.execResetPinAssertion s

end Sys2Proof.Machine
end

