-- ==== Sys2Proof/Safety.lean ====
section
/-! DEFINITION. What holds of the part at every moment between two events, as the numbered rules state it: the invariants that statements speak
of. -/

namespace Sys2Proof.Machine

/-- The three ports. -/
def allPorts : List Port := [.i, .t0, .t1]

/-! ## The cell pool (R111) -/

/-- Cells set aside against ingress credit (R113). -/
def State.reservedCells (s : State) : Nat := (allPorts.map fun p => (s.port p).reservedCells).sum

/-- Cells an entry holds. -/
def Entry.cells (e : Entry) : Nat := (e.exchange.map Exchange.ownCells).getD 0

/-- Cells that hold frames, snapshots and answers: in egress queues, in arrived frames, on entries. -/
def State.storedCells (s : State) : Nat :=
  (allPorts.map fun p => queueCells (s.port p).egress + (s.port p).arrivedCells).sum
    + (allEntries.map fun i => (s.entry i).cells).sum

/-- Free, reserved and stored cells total 2048 (R111). -/
def State.cellsConserved (s : State) : Prop := s.freeCells + s.reservedCells + s.storedCells = Config.totalCells

/-! ## Links (R113, R118, R126) -/

/-- What a port that is not UP holds (R113, R118, R126, R130). -/
def PortRecord.quiet (r : PortRecord) : Prop :=
  r.egress = [] ∧ r.arrived = [] ∧ r.peerCredit = 0 ∧ r.announced = 0 ∧ r.owed = 0 ∧ r.peerSegment = none

/-- A peer maximum segment is 64 to 512 bytes in steps of 64, present in UP alone (R126). -/
def PortRecord.segmentOk (r : PortRecord) : Prop :=
  if r.state = .up then (r.peerSegment.any fun m => m % 64 == 0 && decide (64 ≤ m) && decide (m ≤ 512)) = true
  else r.peerSegment = none

/-- The INIT wait deadline and the offered credit are present in INIT_WAIT alone (R113, R126). -/
def PortRecord.initOk (r : PortRecord) : Prop :=
  if r.state = .initWait then r.initDeadline.isSome = true else r.initDeadline = none ∧ r.offered = 0

/-- INIT failures lie in 0 to 8, and reach 8 in FAILED alone (R126, R129). -/
def PortRecord.failuresOk (r : PortRecord) : Prop :=
  r.initFailures ≤ Config.initFailureLimit ∧ (r.state ≠ .failed → r.initFailures < Config.initFailureLimit)

/-- The link record of one port. -/
def State.linkOk (s : State) (p : Port) : Prop :=
  ((s.port p).state ≠ .up → (s.port p).quiet) ∧ (s.port p).segmentOk ∧ (s.port p).initOk ∧ (s.port p).failuresOk
    ∧ (s.port p).outstanding ≤ creditLimit p ∧ (s.port p).offered ≤ creditLimit p
    ∧ (s.port p).peerCredit ≤ Config.peerCreditMax

/-- The three link records. -/
def State.linksOk (s : State) : Prop := ∀ p, s.linkOk p

/-! ## Settled (R116, R159) -/

/-- No credit grant can be made (R116), and no batch waits to be formed (R159). -/
def State.settled (s : State) : Prop :=
  (s.freeCells < Config.creditCells ∨ ∀ p, s.eligible p = false) ∧ ¬(s.batch = none ∧ s.lease.isSome = true ∧ s.alerts ≠ [])

/-! ## Alert delivery (R157 to R162) -/

/-- The ALERT descriptors of a queue. -/
def alertCount (ds : List Descriptor) : Nat := ds.countP Descriptor.isAlert

/-- The batch in flight: owned, one to four of the oldest records, under the current sequence number (R159). -/
def State.batchOk (s : State) : Prop :=
  ∀ b, s.batch = some b → s.lease.isSome = true ∧ 1 ≤ b.size ∧ b.size ≤ Config.batchRecords ∧ b.size ≤ s.alerts.length
    ∧ b.carried ≤ Config.droppedMax ∧ b.sequence = s.sequence

/-- One ALERT descriptor on port I while a batch's frame has still to leave, none at any other time (R120, R159, R160). -/
def State.alertQueued (s : State) : Prop :=
  alertCount s.portI.egress = (if (s.batch.any fun b => b.resend.isNone) = true then 1 else 0)
    ∧ alertCount s.portT0.egress = 0 ∧ alertCount s.portT1.egress = 0

/-- Alert delivery. -/
def State.deliveryOk (s : State) : Prop :=
  s.alerts.length ≤ Config.alertRecords ∧ s.dropped ≤ Config.droppedMax ∧ s.batchOk ∧ s.alertQueued
    ∧ (s.lease.isSome = true → s.isUp .i = true)

/-! ## Held exchanges (R92, R94) -/

/-- A held exchange as R94 describes it. -/
def Exchange.heldOk (x : Exchange) : Prop :=
  x.state = .held → x.kind = .data ∧ x.closed = false ∧ x.moved = 0 ∧ x.proceeded.getD 0 = 0
    ∧ (x.routing.any fun g => !g.commandSent) = true ∧ (x.storedRequest.any fun q => q != .inQueue) = true
    ∧ (x.deadline.any fun d => d.kind == .hold) = true ∧ x.parked = none ∧ x.snapshot = none ∧ x.answer = none

/-- The hold queue holds exactly the entries whose state is HELD, each once, and never more than 16 (R92). -/
def State.holdsOk (s : State) : Prop :=
  (∀ i x, (s.entry i).exchange = some x → x.heldOk)
    ∧ (∀ h ∈ s.holdQueue, (s.exchangeAt h.entry).any (fun x => x.state == .held) = true)
    ∧ (∀ i x, (s.entry i).exchange = some x → x.state = .held → s.refOf i ∈ s.holdQueue.map HoldPlace.entry)
    ∧ (s.holdQueue.map fun h => h.entry.index).Nodup
    ∧ s.holdQueue.length ≤ Config.holdPlaces

/-! ## The start list (R104) -/

/-- The exchange of a place of the start list is REPLYING at the place's incarnation: its service is yet to start (R104, R105). -/
def State.startPending (s : State) (r : EntryRef) : Prop :=
  ((s.exchangeAt r).any fun x => x.state == .replying) = true

/-- The start list holds each entry once and so at most 64, and holds every snapshot whose service has not started; a place that an ended
exchange has left names an entry that is no longer REPLYING at its incarnation (R104, R105). -/
def State.startOk (s : State) : Prop :=
  (s.startList.map EntryRef.index).Nodup ∧ s.startList.length ≤ 64
    ∧ (∀ r ∈ s.startList, s.startPending r → ((s.exchangeAt r).any fun x => x.snapshot.any fun n => !n.started) = true)
    ∧ ∀ i x n, (s.entry i).exchange = some x → x.state = .replying → x.snapshot = some n → n.started = false → s.refOf i ∈ s.startList

/-! ## Exchanges (R9, R15, R17, R61, R80) -/

/-- The books of the data phase (R61): bytes moved within their bound, bytes proceeded present for direction OUT alone and at most the
transfer length. -/
def Exchange.booksOk (x : Exchange) : Prop :=
  x.moved ≤ x.moveBound ∧ (x.proceeded.isSome = true ↔ x.direction = .dirOut) ∧ x.proceeded.getD 0 ≤ x.length

/-- Routing is present for kind DATA alone (R9). -/
def Exchange.routingOk (x : Exchange) : Prop := x.routing.isSome = true ↔ x.kind = .data

/-- A closed entry in use is in ABORTING (R17), and an entry in ABORTING is a DATA exchange whose command has been sent, under its grace
deadline, with its origin, and without a parked STATUS (R10, R69, R80). -/
def Exchange.abortingOk (x : Exchange) : Prop :=
  (x.closed = true → x.state = .aborting)
    ∧ (x.state = .aborting → x.kind = .data ∧ (x.routing.any Routing.commandSent) = true ∧ x.origin.isSome = true
        ∧ (x.deadline.any fun d => d.kind == .grace) = true ∧ x.parked = none)

/-- Every exchange. -/
def State.exchangesOk (s : State) : Prop :=
  ∀ i x, (s.entry i).exchange = some x → x.booksOk ∧ x.routingOk ∧ x.abortingOk

/-- An entry in use that is not closed and holds a pair of initiator id and tag (R15). -/
def Entry.holdsPair (e : Entry) (n : InitiatorId) (t : Tag) : Prop :=
  (e.exchange.any fun x => !x.closed && x.initiator == n && x.tag == t) = true

/-- At most one entry that is in use and not closed holds a given pair (R15). -/
def State.pairsOk (s : State) : Prop :=
  ∀ n t i j, (s.entry i).holdsPair n t → (s.entry j).holdsPair n t → i = j

/-! ## What an event leaves unchanged -/

/-- The policy tables and what the table store keeps beside them (R149). -/
def State.samePolicy (s t : State) : Prop :=
  t.bankA = s.bankA ∧ t.bankB = s.bankB ∧ t.active = s.active ∧ t.generation = s.generation ∧ t.dirty = s.dirty ∧ t.resync = s.resync

/-- Everything but ports, entries, hold queue, start list, alerts, dropped count and free cells. -/
def State.sameCore (s t : State) : Prop :=
  t.resetPin = s.resetPin ∧ t.clock = s.clock ∧ s.samePolicy t ∧ t.lease = s.lease ∧ t.warmPending = s.warmPending
    ∧ t.batch = s.batch ∧ t.sequence = s.sequence ∧ t.rotation = s.rotation ∧ t.freeCount = s.freeCount ∧ t.pending = s.pending

/-- The hold queue and the reply engine's start list. -/
def State.sameLists (s t : State) : Prop := t.holdQueue = s.holdQueue ∧ t.startList = s.startList

/-- Every entry. -/
def State.sameEntries (s t : State) : Prop := ∀ i, t.entry i = s.entry i

/-- Every entry but one. -/
def State.sameEntriesBut (s t : State) (i : EntryIndex) : Prop := ∀ j, j ≠ i → t.entry j = s.entry j

/-- Every port but one. -/
def State.samePortsBut (s t : State) (p : Port) : Prop := ∀ q, q ≠ p → t.port q = s.port q

/-- The alert queue and the dropped count. -/
def State.sameAlerts (s t : State) : Prop := t.alerts = s.alerts ∧ t.dropped = s.dropped

/-- One alert has been posted (R158). -/
def State.posted (s t : State) (a : Alert) : Prop :=
  if s.alerts.length < 32 then t.alerts = s.alerts ++ [a] ∧ t.dropped = s.dropped
  else t.alerts = s.alerts ∧ t.dropped = min 65535 (s.dropped + 1)

/-- The place of an entry has left the hold queue (R92). -/
def State.placeGone (s t : State) (i : EntryIndex) : Prop := t.holdQueue = s.holdQueue.filter fun h => h.entry.index ≠ i

/-- The entry is FREE at the incarnation it had, and every other entry is as it was (R19). -/
def State.freed (s t : State) (i : EntryIndex) : Prop :=
  t.entry i = { s.entry i with exchange := none } ∧ s.sameEntriesBut t i ∧ s.placeGone t i ∧ t.startList = s.startList

/-- A port's record with descriptors added at the tail of its queue; a port that is not UP keeps none (R126). -/
def PortRecord.queued (r : PortRecord) (ds : List Descriptor) : PortRecord :=
  if r.state = .up then { r with egress := r.egress ++ ds } else r

/-- Descriptors have joined the tail of one port's queue; nothing else of any port has changed. -/
def State.queuedOn (s t : State) (p : Port) (ds : List Descriptor) : Prop :=
  t.port p = (s.port p).queued ds ∧ s.samePortsBut t p

/-! ## Frames and descriptors as the rules name them -/

/-- A STATUS the bridge makes (R6): FROM_TARGET and RESIDUE_ADJUSTED clear, no detail. -/
def bridgeStatus (r : EntryRef) (x : Exchange) (code : Byte) : Descriptor :=
  { content := .made { initiator := x.initiator, tag := x.tag, body := .status code false false (x.length - x.moved) [] }, entry := some r }

/-- The ABORT toward a target (R79): initiator id 0 and the downstream tag. -/
def bridgeAbort (r : EntryRef) : Descriptor :=
  { content := .made { initiator := 0, tag := BitVec.ofNat 16 (r.inc.val * 64 + r.index.val), body := .abort }, entry := some r }

/-- A frame forwarded in its own cells toward the initiator of an exchange (R14). -/
def forwarded (r : EntryRef) (x : Exchange) (b : FrameBody) (f : List Byte) : Descriptor :=
  { content := .stored { initiator := x.initiator, tag := x.tag, body := b } (cellsFor f.length), entry := some r }

/-- A frame rewritten in its own cells toward the target of an exchange (R14). -/
def towardTarget (r : EntryRef) (b : FrameBody) (f : List Byte) : Descriptor :=
  { content := .stored { initiator := 0, tag := BitVec.ofNat 16 (r.inc.val * 64 + r.index.val), body := b } (cellsFor f.length),
    entry := some r }

/-- The refusal STATUS in the REQUEST's first cell (R58). -/
def refusalStatus (f : List Byte) (code : Byte) : Descriptor :=
  let residue := if 11 ≤ f.length then requestLength f else 0
  { content := .stored { initiator := frameInitiator f, tag := frameTag f, body := .status code false false residue [] } 1 }

/-- ABORT_DONE NOT_FOUND in the ABORT's own cell (R85). -/
def notFoundAnswer (f : List Byte) : Descriptor :=
  { content := .stored { initiator := frameInitiator f, tag := frameTag f, body := .abortDone .notFound } (cellsFor f.length) }

/-- A DATA frame (R5). -/
def dataFrame (n : InitiatorId) (t : Tag) (offset : Nat) (payload : List Byte) : Frame :=
  { initiator := n, tag := t, body := .data offset payload }

/-- An alert that names an exchange by entry, initiator, tag and view (R157). -/
def exchangeAlert (s : State) (c : AlertCause) (i : EntryIndex) (x : Exchange) : Alert :=
  { cause := c, time := s.clock, entry := some { index := i, inc := (s.entry i).inc }, initiator := some x.initiator,
    tag := some x.tag, view := x.view }

/-- The ABORT_DONE of grace's end (R84): made by the bridge, outcome ABORTED. -/
def bridgeAbortDone (r : EntryRef) (x : Exchange) : Descriptor :=
  { content := .made { initiator := x.initiator, tag := x.tag, body := .abortDone .aborted }, entry := some r }

/-- A target's STATUS as it goes to the initiator (R68, R69): FROM_TARGET set, the bridge's residue, RESIDUE_ADJUSTED where the target's
differs, in the cells it arrived in. -/
def targetStatus (r : EntryRef) (x : Exchange) (k : ParkedStatus) : Descriptor :=
  let body : FrameBody := .status k.code true (k.residue != x.length - x.moved) (x.length - x.moved) k.detail
  { content := .stored { initiator := x.initiator, tag := x.tag, body := body } k.cells, entry := some r }

/-- The REQUEST descriptor of an entry that waits in its target's queue (R13). -/
def Descriptor.requestOf (d : Descriptor) (r : EntryRef) : Bool := d.isRequest && d.entry == some r

/-- The target port of an exchange's routing. -/
def targetLinkOf (x : Exchange) : Option Port := x.routing.map fun g => targetPort g.link

/-! ## How an exchange ends -/

/-- The command of the exchange has been sent and its target has not answered: the target may still act (R19, R70). -/
def Exchange.awaitsTarget (x : Exchange) : Prop := (x.routing.any Routing.commandSent) = true ∧ x.parked = none

/-- The ports after an exchange has left the bridge unseen: `ds` join port I's queue and the REQUEST, if it waits in its target's, is gone from
it (R70, R78, R86, R90). -/
def State.unseenPorts (s t : State) (i : EntryIndex) (x : Exchange) (ds : List Descriptor) : Prop :=
  t.port .i = (s.port .i).queued ds
    ∧ ∀ q, t.port (targetPort q) =
        if x.routing.any (fun g => g.link == q) then
          { s.port (targetPort q) with egress := (s.port (targetPort q)).egress.filter fun d => !d.requestOf (s.refOf i) }
        else s.port (targetPort q)

/-- Cells of an exchange that its target has not seen: its own, and those of its REQUEST where that waits in the target's queue. -/
def State.unseenCells (s : State) (i : EntryIndex) (x : Exchange) : Nat :=
  x.ownCells + (match x.routing with
    | some g => queueCells ((s.port (targetPort g.link)).egress.filter fun d => d.requestOf (s.refOf i))
    | none => 0)

/-- An exchange that no target serves, or whose target has not seen it or has answered, has ended: one frame toward its initiator, the REQUEST
withdrawn, the entry freed with its cells. `cells` are those of the frame that brought the end about. -/
def State.unseenEnded (s t : State) (i : EntryIndex) (x : Exchange) (answer : Descriptor) (cells : Nat) : Prop :=
  s.freed t i ∧ s.sameCore t ∧ s.unseenPorts t i x [answer] ∧ t.freeCells = s.freeCells + cells + s.unseenCells i x

/-- A STATUS of the bridge has closed an exchange whose command has been sent, and an ABORT is on its way to the target (R70, R79, R90). -/
def State.abortStarted (s t : State) (i : EntryIndex) (x : Exchange) (g : Routing) (o : AbortOrigin) (code : Byte) (cells : Nat) : Prop :=
  t.entry i = { s.entry i with exchange := some { x with
      state := .aborting, closed := true, origin := some o, deadline := some { kind := .grace, due := s.clock + 250#32 } } }
    ∧ s.sameEntriesBut t i ∧ s.sameLists t ∧ s.sameCore t ∧ t.freeCells = s.freeCells + cells
    ∧ t.port .i = (s.port .i).queued [bridgeStatus (s.refOf i) x code]
    ∧ t.port (targetPort g.link) = (s.port (targetPort g.link)).queued [bridgeAbort (s.refOf i)]
    ∧ ∀ q, q ≠ .i → q ≠ targetPort g.link → t.port q = s.port q

/-- The bridge has ended an open exchange with a STATUS of its own (R70, R71, R78, R79, R90): with an abort where its target may still act,
else at once. -/
def State.endedWith (s t : State) (i : EntryIndex) (x : Exchange) (o : AbortOrigin) (code : Byte) (cells : Nat) : Prop :=
  (∀ g, x.routing = some g → x.awaitsTarget → s.abortStarted t i x g o code cells)
    ∧ (¬x.awaitsTarget → s.unseenEnded t i x (bridgeStatus (s.refOf i) x code) cells)

/-- A phase violation of detail d has ended an exchange (R70, R71): the frame's cells are back, and the alert is posted, with the target link
for kind DATA alone. -/
def State.violated (s t : State) (i : EntryIndex) (x : Exchange) (d : ViolationDetail) (f : List Byte) : Prop :=
  s.endedWith t i x .phase 0xD4#8 ((f.length + 63) / 64)
    ∧ s.posted t { exchangeAlert s (.phaseViolation d) i x with link := targetLinkOf x }

/-- A frame has been discarded, its cells are free, and no port, entry or list has changed. -/
def State.onlyDiscards (s t : State) (f : List Byte) : Prop :=
  (∀ q, t.port q = s.port q) ∧ s.sameEntries t ∧ s.sameLists t ∧ s.sameCore t ∧ t.freeCells = s.freeCells + (f.length + 63) / 64

/-! ## The end of a lease (R142, R162) -/

/-- The lease of `l` has ended: no owner, no batch, its carried dropped count added back, the ALERT descriptors gone from port I, LEASE_ENDED
posted; the policy, the entries, the lists and everything else are as they were. -/
def State.leaseEnded (s t : State) (l : Lease) (why : LeaseEnd) : Prop :=
  ∃ a n, t = { s with lease := none, batch := none, alerts := a, dropped := n,
                      portI := { s.portI with egress := s.portI.egress.filter fun d => !d.isAlert } }
    ∧ ({ s with dropped := min 65535 (s.dropped + (s.batch.map Batch.carried).getD 0) } : State).posted t
        { cause := .leaseEnded why, time := s.clock, initiator := some l.owner }

/-! ## Teardown (R130 to R134) -/

/-- What a teardown leaves of a port (R130): everything held for its peer is gone. -/
def PortRecord.tornTo (r : PortRecord) (next : PortState) : PortRecord :=
  { r with state := next, initDeadline := none, peerSegment := none, peerCredit := 0, offered := 0, announced := 0, owed := 0,
           egress := [], arrived := [] }

/-- Cells that a port gives back at its teardown: of its queue, of its reserved credit, of the frames that wait. -/
def PortRecord.tornCells (r : PortRecord) : Nat := queueCells r.egress + r.reservedCells + r.arrivedCells

/-- The exchange is routed to t and its target has not answered (R132). -/
def Exchange.routedTo (x : Exchange) (t : Target) : Bool := x.routing.any (fun g => g.link == t) && x.parked.isNone

/-- Target port t has been torn down (R130 to R132): each entry routed to it without a parked STATUS is freed, its STATUS C6h, none if it has
closed, joining port I's queue in index order. -/
def State.tornTarget (s u : State) (t : Target) (next : PortState) (why : LinkDetail) : Prop :=
  let ends := fun i : EntryIndex => (s.entry i).exchange.any fun x => x.routedTo t
  (∀ i, u.entry i = if ends i then { s.entry i with exchange := none } else s.entry i)
    ∧ u.portI = s.portI.queued (allEntries.filterMap fun i =>
        match (s.entry i).exchange with
        | some x => if x.routedTo t && !(x.state == .aborting && x.closed) then some (bridgeStatus (s.refOf i) x 0xC6#8) else none
        | none => none)
    ∧ u.port (targetPort t) = (s.port (targetPort t)).tornTo next
    ∧ (∀ q, q ≠ .i → q ≠ targetPort t → u.port q = s.port q)
    ∧ u.holdQueue = s.holdQueue.filter (fun h => !ends h.entry.index) ∧ u.startList = s.startList
    ∧ u.freeCells = s.freeCells + (s.port (targetPort t)).tornCells + (allEntries.map fun i => if ends i then (s.entry i).cells else 0).sum
    ∧ s.sameCore u ∧ s.posted u { cause := .linkChange why, time := s.clock, link := some (targetPort t) }

/-- The exchange is not in ABORTING and its target may still act (R133). -/
def Exchange.abandoned (x : Exchange) : Bool := x.state != .aborting && x.routing.any Routing.commandSent && x.parked.isNone

/-- Port I has been torn down (R130, R131, R133, R134): no frame toward any initiator; ABORTING entries closed; entries whose target may still
act in ABORTING with an ABORT; every other one freed, its REQUEST withdrawn; the lease ended LINK_LOST after the LINK_CHANGE. That the ABORTs of
one target are queued in index order is the model's choice (log entry 28). -/
def State.tornInitiator (s u : State) (next : PortState) (why : LinkDetail) : Prop :=
  let frees := fun x : Exchange => x.state != .aborting && !x.abandoned
  let gone := fun (q : Target) (d : Descriptor) => allEntries.any fun i =>
    (s.entry i).exchange.any (fun x => frees x && x.routing.any fun g => g.link == q) && d.requestOf (s.refOf i)
  let change : Alert := { cause := .linkChange why, time := s.clock, link := some .i }
  (∀ i, (s.entry i).exchange = none → u.entry i = s.entry i)
    ∧ (∀ i x, (s.entry i).exchange = some x →
        (x.state = .aborting → u.entry i = { s.entry i with exchange := some { x with closed := true, dataWaiting := 0 } })
        ∧ (x.abandoned = true → u.entry i = { s.entry i with exchange := some { x with
            state := .aborting, closed := true, dataWaiting := 0, origin := some .initiator,
            deadline := some { kind := .grace, due := s.clock + 250#32 } } })
        ∧ (frees x = true → u.entry i = { s.entry i with exchange := none }))
    ∧ u.portI = s.portI.tornTo next
    ∧ (∀ q, u.port (targetPort q) = ({ s.port (targetPort q) with
        egress := (s.port (targetPort q)).egress.filter fun d => !gone q d } : PortRecord).queued (allEntries.filterMap fun i =>
          if (s.entry i).exchange.any (fun x => x.abandoned && x.routing.any fun g => g.link == q) then some (bridgeAbort (s.refOf i)) else none))
    ∧ u.freeCells = s.freeCells + s.portI.tornCells
        + (allEntries.map fun i => if (s.entry i).exchange.any frees then (s.entry i).cells else 0).sum
        + queueCells (s.portT0.egress.filter (gone .t0)) + queueCells (s.portT1.egress.filter (gone .t1))
    ∧ u.holdQueue = [] ∧ u.startList = [] ∧ u.warmPending = false ∧ u.lease = none ∧ s.samePolicy u
    ∧ u.resetPin = s.resetPin ∧ u.clock = s.clock ∧ u.sequence = s.sequence ∧ u.rotation = s.rotation ∧ u.freeCount = s.freeCount
    ∧ u.pending = s.pending
    ∧ (s.lease = none → s.posted u change ∧ u.batch = s.batch)
    ∧ (∀ l, s.lease = some l → u.batch = none ∧ ∃ m : State, s.posted m change
        ∧ ({ m with dropped := min 65535 (m.dropped + (s.batch.map Batch.carried).getD 0) } : State).posted u
            { cause := .leaseEnded .linkLost, time := s.clock, initiator := some l.owner })

/-- A port in UP has been torn down, and what depends on it has ended. -/
def State.torn (s u : State) (p : Port) (next : PortState) (why : LinkDetail) : Prop :=
  match p with
  | .i => s.tornInitiator u next why
  | .t0 => s.tornTarget u .t0 next why
  | .t1 => s.tornTarget u .t1 next why

/-- What R128 finds wrong with a peer's INIT on port p: the bridge's own role, else a length, a role, a segment or a reserved field that an INIT
does not have. -/
def initFaulty (p : Port) (f : List Byte) (d : LinkDetail) : Prop :=
  let own : Byte := if p = .i then 0x02#8 else 0x01#8
  f.length ≠ 8 ∧ d = .badInit ∨ f.length = 8 ∧ byteAt f 4 = own ∧ d = .sameRole
    ∨ f.length = 8 ∧ byteAt f 4 ≠ own ∧ d = .badInit
      ∧ (byteAt f 4 ≠ 0x01#8 ∧ byteAt f 4 ≠ 0x02#8 ∨ (byteAt f 5).toNat = 0 ∨ 8 < (byteAt f 5).toNat ∨ (byteAt f 1).toNat % 16 ≠ 0)

/-- The INIT that lane lock and a peer restart send (R127): the bridge's role on the port, segment 8, the offered credit, revision 1. -/
def initBytes (p : Port) (n : Nat) : List Byte :=
  [0x08#8, 0x00#8, 0x00#8, 0x00#8, if p = .i then 0x02#8 else 0x01#8, 8#8, BitVec.ofNat 8 n, 1#8]

/-! ## Expired holds (R95, R103) -/

/-- The hold of a place has a deadline that the clock has reached (R1, R95). -/
def State.holdOver (s : State) (h : HoldPlace) : Bool :=
  (s.entry h.entry.index).exchange.any fun x =>
    x.deadline.any fun d => d.kind == .hold && decide ((s.clock - d.due).toNat < 2 ^ 31)

/-- Every hold whose deadline the clock has reached has expired (R95), from the head of the queue on. -/
def State.holdsExpired (s t : State) : Prop :=
  let ended := s.holdQueue.filter s.holdOver
  let alerts := ended.filterMap fun h => (s.entry h.entry.index).exchange.map fun x =>
    { exchangeAlert s .holdExpired h.entry.index x with link := targetLinkOf x }
  t.holdQueue = s.holdQueue.filter (fun h => !s.holdOver h) ∧ t.startList = s.startList ∧ s.sameCore t
    ∧ (∀ i, t.entry i = if i ∈ ended.map (fun h => h.entry.index) then { s.entry i with exchange := none } else s.entry i)
    ∧ s.queuedOn t .i (ended.filterMap fun h => (s.entry h.entry.index).exchange.map fun x => bridgeStatus (s.refOf h.entry.index) x 0xD2#8)
    ∧ t.freeCells = s.freeCells + (ended.map fun h => (s.entry h.entry.index).cells).sum
    ∧ (s.alerts.length + alerts.length ≤ 32 → t.alerts = s.alerts ++ alerts ∧ t.dropped = s.dropped)

/-! ## When an event can be taken -/

/-- The frames of targets that exchange control matches, each with its command (R8, R16). -/
def targetFrames (t : Target) : List (Byte × Instr) :=
  [(0x02#8, .targetProceed t), (0x03#8, .targetData t), (0x04#8, .targetStatus t), (0x06#8, .targetAbortDone t)]

/-- The reset pin is released, and exchange control takes `f`, of kind `k`, next from port `p`, leaving `u`. -/
def State.taking (s : State) (p : Port) (k : Byte) (f : List Byte) (u : State) : Prop :=
  s.resetPin = false ∧ s.takeKind p k = some (f, u) ∧ 4 ≤ f.length

/-- The frame matches entry i, which is in ISSUED or MOVING without a parked STATUS (R16, R62). -/
def State.matchesOpen (s : State) (t : Target) (f : List Byte) (i : EntryIndex) (x : Exchange) (g : Routing) : Prop :=
  s.matchTarget t f = .matched i x g ∧ (x.state = .issued ∨ x.state = .moving) ∧ x.parked = none

/-- The frame matches entry i in ABORTING (R16, R80). -/
def State.matchesAborting (s : State) (t : Target) (f : List Byte) (i : EntryIndex) (x : Exchange) (g : Routing) : Prop :=
  s.matchTarget t f = .matched i x g ∧ x.state = .aborting ∧ x.parked = none

/-- The timer of entry i holds a deadline of kind k that the clock has reached (R1, R9). -/
def State.due (s : State) (i : EntryIndex) (k : DeadlineKind) (x : Exchange) : Prop :=
  s.resetPin = false ∧ (s.entry i).exchange = some x
    ∧ ∃ d, x.deadline = some { kind := k, due := d } ∧ (s.clock - d).toNat < 2 ^ 31

/-- The next verdict, on `f`, opens a management exchange on entry i and performs its operation: a reading of R136 for a REQUEST without a
body. `u` is the state without `f` among port I's arrivals. -/
def State.atVerdict (s : State) (f : List Byte) (u : State) (i : EntryIndex) : Prop :=
  s.resetPin = false ∧ s.takeNext .admission .i = some (f, u) ∧ 4 ≤ f.length ∧ u.judge f = .manage i
    ∧ ¬((readRequest f).direction = .dirOut ∧ 0 < (readRequest f).length)

/-- The state in which the operation of that verdict is performed: entry i allocated to the management exchange (R11, R50). -/
def State.opened (u : State) (f : List Byte) (i : EntryIndex) : State := u.allocate i (managementExchange f)

/-- The management commands, each with its operation code (R164). -/
def mgmtCommands : List (Byte × MgmtOp × (PerformedAt → Instr)) :=
  [(0x01#8, .identify, .identify), (0x02#8, .claim, .claim), (0x03#8, .renew, .renew), (0x04#8, .releaseLease, .releaseLease),
   (0x05#8, .readEntry, .readEntry), (0x06#8, .writeEntry, .writeEntry), (0x07#8, .clearStaging, .clearStaging), (0x08#8, .commit, .commit),
   (0x09#8, .readExchange, .readExchange), (0x0A#8, .holdList, .holdList), (0x0B#8, .holdDecide, .holdDecide), (0x0C#8, .alertAck, .alertAck),
   (0x0D#8, .endExchange, .endExchange), (0x0E#8, .linkState, .linkState), (0x0F#8, .warmReset, .warmReset)]

/-- Record k of a table holds r, and every other record is as it was (R150). -/
def onlyReplaced {α : Type} {n : Nat} (old new : Vector α n) (k : Fin n) (r : α) : Prop :=
  new.get k = r ∧ ∀ j, j ≠ k → new.get j = old.get j

/-- What answers the command: the performance concluded (R140), then settled. -/
def State.concluded (f : List Byte) (i : EntryIndex) (r : OpResult) : Host.Outcome State Fault Refusal :=
  .next (State.conclude i (managementExchange f) r).settle

end Sys2Proof.Machine
end

