-- ==== Sys2Proof/Certificates/Slice0/Obligations.lean ====
section
/-! DEFINITION. The statements for the provers. An event answers the state `u` it leaves, settled: the credit grants of R116 and the batch of R159,
which GrantsAndBatchSettle describes once; that both come at the end of an event is the model's reading (log entries 10 and 11). -/

open Sys2Proof Sys2Proof.Machine

/-! ## The queue of commands, reset, time -/

/-- A step runs the command at the front of the queue on the state with the queue's rest; with no command waiting the block idles. The
queue is the model's choice (log entry 2). -/
def Obligations.StepRunsFrontCommand : Prop :=
  (∀ (c : Instr) (s : State) (rest : List Instr), s.pending = c :: rest → step s = exec c { s with pending := rest })
  ∧ (∀ s : State, s.pending = [] → step s = .next s)

/-- R165 and R21, with the reset values of R26, R92, R110, R111, R113, R118, R120, R126, R142, R147, R149, R157 to R159. The queue of commands,
the counter of the free values and the frames sent are the model's own (log entries 2, 21, 6). That RESET_PIN_ASSERTION already puts the
power-on values, and that until the release only the release changes anything, is its choice (log entry 4). -/
def Obligations.ResetPinSetsPowerOnValues : Prop :=
  (∀ (s : State), ∃ t, exec .powerOnReset s = .next t ∧ exec .resetPinAssertion s = .next { t with resetPin := true }
    ∧ t.resetPin = false ∧ t.clock = 0#32
    ∧ (∀ p, (t.port p).state = .down ∧ (t.port p).initFailures = 0 ∧ (t.port p).initDeadline = none ∧ (t.port p).offered = 0
        ∧ (t.port p).quiet ∧ (t.port p).wire = [])
    ∧ (∀ i, t.entry i = { inc := 0, exchange := none }) ∧ (∀ n, t.inUseCount n = 0)
    ∧ (∀ i x, ((t.allocate i x).entry i).inc = 1) ∧ (∀ x, downstreamTag ((t.allocate 0 x).refOf 0) = 0x0040#16)
    ∧ t.holdQueue = [] ∧ t.startList = [] ∧ t.lease = none ∧ t.warmPending = false
    ∧ t.bankA = Bank.cleared ∧ t.bankB = Bank.cleared ∧ t.active = .a ∧ t.generation = 0#32 ∧ t.dirty = false ∧ t.resync = none
    ∧ t.alerts = [] ∧ t.dropped = 0 ∧ t.batch = none ∧ t.sequence = 0#16 ∧ t.freeCells = 2048 ∧ t.rotation = .i
    ∧ t.pending = s.pending ∧ t.freeCount = s.freeCount)
  ∧ ∀ (c : Instr) (s : State), s.resetPin = true → c ≠ .powerOnReset → c ≠ .resetPinAssertion → exec c s = .next s

/-- R1: the clock advances by one and wraps, and nothing else changes; a deadline is reached from the moment the clock holds it on, and not
before, across a wrap of the count. An expiry command whose deadline is absent or not reached is no event and changes nothing (log entry 1). -/
def Obligations.ClockAdvancesAndDeadlinesCompare : Prop :=
  (∀ (s : State), s.resetPin = false → exec .millisecondClockAdvance s = .next { s with clock := BitVec.ofNat 32 ((s.clock.toNat + 1) % 2 ^ 32) })
  ∧ (∀ (d : Clock) (n : Nat),
       (n < 2 ^ 31 → reached (d + BitVec.ofNat 32 n) d = true) ∧ (1 ≤ n → n ≤ 2 ^ 31 → reached (d - BitVec.ofNat 32 n) d = false))
  ∧ ∀ s : State, let ahead := fun d : Clock => 2 ^ 31 ≤ (s.clock - d).toNat
    (∀ i k c, (k, c) ∈ [(DeadlineKind.exchange, Instr.exchangeDeadlineExpiry i), (.hold, .holdExpiry i), (.grace, .graceExpiry i),
        (.body, .bodyDeadlineExpiry i)] →
      (∀ x d, (s.entry i).exchange = some x → x.deadline = some { kind := k, due := d } → ahead d) → exec c s = .next s)
    ∧ (∀ p, (∀ d, (s.port p).state = .initWait → (s.port p).initDeadline = some d → ahead d) → exec (.initWaitExpiry p) s = .next s)
    ∧ ((∀ l, s.lease = some l → ahead l.deadline) → exec .leaseExpiry s = .next s)
    ∧ ((∀ b d, s.batch = some b → b.resend = some d → ahead d) → exec .resendDeadlineExpiry s = .next s)
    ∧ ((∀ d, s.resync = some d → ahead d) → exec .resyncCompletion s = .next s)

/-! ## Encodings -/

/-- 13.1: the fields read from a REQUEST, a DATA and a STATUS are those written in them, and each passes its form check. The form checks of a
REQUEST (R46), of a PROCEED and a DATA (R62) and of an ABORT (R85) pass exactly the frames that their rules let pass; those of a STATUS and an
ABORT_DONE stand in AbortingDiscards. That a PROCEED longer than eight bytes passes is the model's reading (log entry 16). -/
def Obligations.FrameFieldsRoundTrip : Prop :=
  (∀ (n : InitiatorId) (t : Tag) (unit opcode : Byte) (d : Direction) (length : Nat) (block : BlockAddress) (count : Nat) (params : List Byte),
     length < 2 ^ 24 → count < 2 ^ 16 → params.length ≤ 32 → params.length % 4 = 0 →
     let f := ({ initiator := n, tag := t, body := .request unit opcode d length block count params } : Frame).encode
     requestFormOk f = true
       ∧ readRequest f = { initiator := n, tag := t, unit := unit, opcode := opcode, direction := d, length := length, block := block,
                           count := count, params := params })
  ∧ (∀ (n : InitiatorId) (t : Tag) (value : Nat) (bytes : List Byte) (code : Byte) (a b : Bool), value < 2 ^ 24 →
       (1 ≤ bytes.length → bytes.length ≤ 512 →
         let f := ({ initiator := n, tag := t, body := .data value bytes } : Frame).encode
         dataFormOk f = true ∧ frameInitiator f = n ∧ frameTag f = t ∧ dataOffset f = value ∧ dataLength f = bytes.length ∧ dataPayload f = bytes)
       ∧ (bytes.length ≤ 16 →
         let f := ({ initiator := n, tag := t, body := .status code a b value bytes } : Frame).encode
         statusFormOk f = true ∧ frameInitiator f = n ∧ frameTag f = t ∧ statusCode f = code ∧ statusResidue f = value ∧ statusDetail f = bytes))
  ∧ ∀ f : List Byte, let reserved := (byteAt f 1).toNat % 16 = 0
    (requestFormOk f = true ↔ 20 ≤ f.length ∧ (byteAt f 7).toNat ≤ 32 ∧ (byteAt f 7).toNat % 4 = 0 ∧ f.length = 20 + (byteAt f 7).toNat
      ∧ (byteAt f 6).toNat ≤ 2 ∧ reserved ∧ byteAt f 11 = 0#8 ∧ byteAt f 19 = 0#8)
    ∧ (proceedFormOk f = true ↔ 8 ≤ f.length ∧ 1 ≤ fieldAt f 4 3 ∧ fieldAt f 4 3 ≤ 65536 ∧ reserved ∧ byteAt f 7 = 0#8)
    ∧ (dataFormOk f = true ↔ 12 ≤ f.length ∧ 1 ≤ fieldAt f 8 2 ∧ fieldAt f 8 2 ≤ 512 ∧ f.length = 12 + fieldAt f 8 2 ∧ reserved
      ∧ byteAt f 7 = 0#8 ∧ byteAt f 10 = 0#8 ∧ byteAt f 11 = 0#8)
    ∧ (abortFormOk f = true ↔ f.length = 8 ∧ reserved ∧ byteAt f 4 = 0#8 ∧ byteAt f 5 = 0#8 ∧ byteAt f 6 = 0#8 ∧ byteAt f 7 = 0#8)

/-- 13.2 with R150: a record that can be stored is read back from its own bytes; a body that check 3 of R150 lets pass puts the record it spells,
absent where its validity bit is clear (R24), in the place of one record of the bank and changes no other; any other body stores nothing. That a
reply record's selector ANY needs a zero value, and that the length rule holds of an invalid one, is the model's choice (log entry 18). -/
def Obligations.PolicyRecordsRoundTrip : Prop :=
  (∀ r : InitiatorRecord, 1 ≤ r.quota → r.quota ≤ 16 → 1 ≤ r.leaseTime → r.leaseTime ≤ 600 →
    readInitiatorRecord r.encode = some (some r))
  ∧ (∀ v : View, v.virtualUnit ≠ 0xFF#8 → v.unit ≠ 0xFF#8 → 1 ≤ v.extent → v.extent < 2 ^ 48 → 1 ≤ v.holdWait → v.holdWait ≤ 600 →
    1 ≤ v.timeout → v.timeout ≤ 6000 → readView v.encode = some (some v))
  ∧ (∀ r : ReplyRecord, r.unit ≠ 0xFF#8 → r.code.toNat < 0xC0 → r.data.length ≤ 256 → readReplyRecord r.encode = some (some r))
  ∧ ∀ (b : Bank) (body : List Byte), let at' := byteAt body; let flag := (at' 0).getLsbD
    (∀ n : InitiatorId,
      let storable := body.length = 4 ∧ (flag 0 = true → (at' 0).toNat < 8 ∧ 1 ≤ (at' 1).toNat ∧ (at' 1).toNat ≤ 16 ∧ 1 ≤ fieldAt body 2 2
        ∧ fieldAt body 2 2 ≤ 600)
      (¬storable → b.withRecord .initiators n.val body = none)
      ∧ (storable → ∃ w, b.withRecord .initiators n.val body = some { b with initiators := w }
          ∧ onlyReplaced b.initiators w n (if flag 0 = true then
              some { dataRight := flag 1, mgmtRight := flag 2, quota := (at' 1).toNat, leaseTime := fieldAt body 2 2 } else none)))
    ∧ (∀ n : ViewIndex,
      let storable := body.length = 24 ∧ (flag 0 = true → (at' 0).toNat < 32 ∧ (at' 1).toNat ≤ 2 ∧ at' 4 ≠ 0xFF#8 ∧ at' 6 ≠ 0xFF#8
        ∧ 1 ≤ fieldAt body 13 6 ∧ at' 19 = 0#8 ∧ 1 ≤ fieldAt body 20 2 ∧ fieldAt body 20 2 ≤ 600 ∧ 1 ≤ fieldAt body 22 2
        ∧ fieldAt body 22 2 ≤ 6000)
      (¬storable → b.withRecord .views n.val body = none)
      ∧ (storable → ∃ w, b.withRecord .views n.val body = some { b with views := w }
          ∧ (flag 0 = false → onlyReplaced b.views w n none)
          ∧ (flag 0 = true → ∀ mode, (at' 1, mode) ∈ [(0x00#8, HoldMode.noHold), (0x01#8, .holdWrites), (0x02#8, .holdAll)] →
              onlyReplaced b.views w n (some {
                mask := BitVec.ofNat 16 (fieldAt body 2 2), virtualUnit := at' 4, linkCode := at' 5, unit := at' 6, blockSizeCode := at' 7,
                base := BitVec.ofNat 40 (fieldAt body 8 5), extent := fieldAt body 13 6, readRight := flag 1, writeRight := flag 2,
                controlRight := flag 3, holdMode := mode, holdWait := fieldAt body 20 2, timeout := fieldAt body 22 2,
                alertOnDeny := flag 4 }))))
    ∧ (∀ n : Fin 256,
      let storable := body.length = 4 ∧ (at' 0).toNat ≤ 5 ∧ at' 1 = 0#8 ∧ at' 2 = 0#8 ∧ at' 3 = 0#8
      (¬storable → b.withRecord .classes n.val body = none)
      ∧ (storable → ∃ w c, b.withRecord .classes n.val body = some { b with classes := w } ∧ onlyReplaced b.classes w n c
          ∧ (at' 0, c) ∈ [(0x00#8, .undefined), (0x01#8, .readBlocks), (0x02#8, .writeBlocks), (0x03#8, .control), (0x04#8, .query),
              (0x05#8, .forbidden)]))
    ∧ ∀ n : ReplyIndex,
      let storable := 12 ≤ body.length ∧ fieldAt body 8 2 ≤ 256 ∧ body.length = 12 + fieldAt body 8 2
        ∧ (flag 0 = true → (at' 0).toNat < 2 ∧ at' 2 ≠ 0xFF#8 ∧ (at' 4 = 0x00#8 ∨ at' 4 = 0x01#8 ∧ at' 5 = 0#8) ∧ (at' 6).toNat < 0xC0
          ∧ at' 7 = 0#8 ∧ at' 10 = 0#8 ∧ at' 11 = 0#8)
      (¬storable → b.withRecord .replies n.val body = none)
      ∧ (storable → ∃ w, b.withRecord .replies n.val body = some { b with replies := w }
          ∧ onlyReplaced b.replies w n (if flag 0 = true then
              some { linkCode := at' 1, unit := at' 2, opcode := at' 3, selector := if at' 4 = 0x00#8 then some (at' 5) else none, code := at' 6,
                     data := body.drop 12 } else none))

/-! ## Links -/

/-- R127, with every field of the record: signal present, and lane lock with its INIT. R129: the end of an INIT wait, below 8 failures and
reaching 8, and signal loss outside UP. -/
def Obligations.InitWaitBeginsAndEnds : Prop :=
  (∀ (s : State) (p : Port), s.resetPin = false → (s.port p).state = .down →
    exec (.signalPresent p) s = .next (s.setPort p { s.port p with state := .training }))
  ∧ (∀ (s : State) (p : Port), s.resetPin = false → (s.port p).state = .training →
    ∃ n, n = min (if p = .i then 32 else 16) (s.freeCells / 9)
      ∧ exec (.laneLock p) s = .next
          { s.setPort p { s.port p with
              state := .initWait, initDeadline := some (s.clock + 50#32), offered := n, wire := (s.port p).wire ++ [initBytes p n] }
            with freeCells := s.freeCells - 9 * n })
  ∧ (∀ (s : State) (p : Port) (d : Clock), s.resetPin = false → (s.port p).state = .initWait → (s.port p).initDeadline = some d →
     (s.clock - d).toNat < 2 ^ 31 →
     ∃ u, exec (.initWaitExpiry p) s = .next u.settle
       ∧ u.port p = { s.port p with
           state := if (s.port p).initFailures + 1 < 8 then .training else .failed, initDeadline := none, offered := 0,
           initFailures := (s.port p).initFailures + 1 }
       ∧ s.samePortsBut u p ∧ s.sameEntries u ∧ s.sameLists u ∧ s.sameCore u ∧ u.freeCells = s.freeCells + 9 * (s.port p).offered
       ∧ (if (s.port p).initFailures + 1 < 8 then s.sameAlerts u
          else s.posted u { cause := .linkChange .noInit, time := s.clock, link := some p }))
  ∧ (∀ (s : State) (p : Port), s.resetPin = false → (s.port p).state ≠ .up →
       ∃ u, exec (.signalLoss p) s = .next u.settle
         ∧ u.port p = { s.port p with state := .down, initDeadline := none, offered := 0, initFailures := 0 }
         ∧ s.samePortsBut u p ∧ s.sameEntries u ∧ s.sameLists u ∧ s.sameCore u ∧ s.sameAlerts u
         ∧ u.freeCells = s.freeCells + 9 * (s.port p).offered)

/-- R128: an INIT of the expected role, a segment of 1 to 8 units and a zero reserved field brings the port UP. One of the bridge's own role is
SAME_ROLE, one with another fault BAD_INIT; the port enters FAILED and the offered credit returns to free. That the own role comes before
another fault is the model's choice (log entry 17). -/
def Obligations.InitBringsUpOrFails : Prop :=
  (∀ (s : State) (p : Port) (b1 b2 b3 seg credit rev : Byte), s.resetPin = false → (s.port p).state = .initWait → b1.toNat % 16 = 0 →
     1 ≤ seg.toNat → seg.toNat ≤ 8 →
     ∃ u, exec (.initArrival p [0x08#8, b1, b2, b3, if p = .i then 0x01#8 else 0x02#8, seg, credit, rev]) s = .next u.settle
       ∧ u.port p = { s.port p with
           state := .up, initDeadline := none, initFailures := 0, peerSegment := some (64 * seg.toNat), peerCredit := credit.toNat,
           announced := (s.port p).announced + (s.port p).offered, offered := 0 }
       ∧ s.samePortsBut u p ∧ s.sameEntries u ∧ s.sameLists u ∧ s.sameCore u ∧ u.freeCells = s.freeCells
       ∧ s.posted u { cause := .linkChange .up, time := s.clock, link := some p })
  ∧ (∀ (s : State) (p : Port) (f : List Byte) (d : LinkDetail), s.resetPin = false → (s.port p).state = .initWait → byteAt f 0 = 0x08#8 →
       initFaulty p f d →
       ∃ u, exec (.initArrival p f) s = .next u.settle
         ∧ u.port p = { s.port p with state := .failed, initDeadline := none, offered := 0 }
         ∧ s.samePortsBut u p ∧ s.sameEntries u ∧ s.sameLists u ∧ s.sameCore u ∧ u.freeCells = s.freeCells + 9 * (s.port p).offered
         ∧ s.posted u { cause := .linkChange d, time := s.clock, link := some p })

/-- R132, with R130 and R131: teardown of a target link. -/
def Obligations.TargetTeardownEndsRouted : Prop :=
  ∀ (s : State) (t : Target), s.resetPin = false → (s.port (targetPort t)).state = .up →
    ∃ u, exec (.signalLoss (targetPort t)) s = .next u.settle ∧ s.tornTarget u t .down .signalLoss

/-- R133 and R134, with R130 and R131: teardown of port I. The order of the ABORTs it queues is the model's choice (log entry 28). -/
def Obligations.InitiatorTeardownEndsAll : Prop :=
  ∀ (s : State), s.resetPin = false → (s.port .i).state = .up →
    ∃ u, exec (.signalLoss .i) s = .next u.settle ∧ s.tornInitiator u .down .signalLoss

/-- R130: a peer INIT in UP tears the port down (`w`: what depended on it has ended, its cells are free), sends an INIT with credit reckoned
from the free cells of `w`, and is judged by R128: the port is UP again with a second LINK_CHANGE alert, or FAILED. -/
def Obligations.PeerRestartBringsUpAgain : Prop :=
  ∀ (s : State) (p : Port), s.resetPin = false → (s.port p).state = .up →
    (∀ b1 b2 b3 seg credit rev : Byte, b1.toNat % 16 = 0 → 1 ≤ seg.toNat → seg.toNat ≤ 8 →
      ∃ w u n, s.torn w p .training .peerRestart ∧ n = min (if p = .i then 32 else 16) (w.freeCells / 9)
        ∧ exec (.peerRestart p [0x08#8, b1, b2, b3, if p = .i then 0x01#8 else 0x02#8, seg, credit, rev]) s = .next u.settle
        ∧ u.port p = { w.port p with
            state := .up, initFailures := 0, peerSegment := some (64 * seg.toNat), peerCredit := credit.toNat, announced := n,
            wire := (w.port p).wire ++ [initBytes p n] }
        ∧ u.freeCells + 9 * n = w.freeCells ∧ w.samePortsBut u p ∧ w.sameEntries u ∧ w.sameLists u ∧ w.sameCore u
        ∧ w.posted u { cause := .linkChange .up, time := s.clock, link := some p })
    ∧ (∀ (f : List Byte) (d : LinkDetail), byteAt f 0 = 0x08#8 → initFaulty p f d →
      ∃ w u n, s.torn w p .training .peerRestart ∧ n = min (if p = .i then 32 else 16) (w.freeCells / 9)
        ∧ exec (.peerRestart p f) s = .next u.settle
        ∧ u.port p = { w.port p with state := .failed, wire := (w.port p).wire ++ [initBytes p n] }
        ∧ u.freeCells = w.freeCells ∧ w.samePortsBut u p ∧ w.sameEntries u ∧ w.sameLists u ∧ w.sameCore u
        ∧ w.posted u { cause := .linkChange d, time := s.clock, link := some p })

/-! ## Ingress credit and arriving frames -/

/-- R116: one grant goes to the first eligible port in rotation, none while fewer than nine cells are free. Settling is grants, which change owed
credit, the rotation and free cells, and then the batch of R159, with its sequence, the dropped count and one ALERT descriptor; nothing else. -/
def Obligations.GrantsAndBatchSettle : Prop :=
  (∀ (s : State),
     (s.freeCells < 9 → s.grantOne = none)
     ∧ (∀ p, 9 ≤ s.freeCells →
         (p = s.rotation ∨ p = nextPort s.rotation ∧ s.eligible s.rotation = false
           ∨ p = nextPort (nextPort s.rotation) ∧ s.eligible s.rotation = false ∧ s.eligible (nextPort s.rotation) = false) →
         (s.port p).state = .up → (s.port p).announced + (s.port p).owed < (if p = .i then 32 else 16) →
         s.grantOne = some { s.setPort p { s.port p with owed := (s.port p).owed + 1 } with
           freeCells := s.freeCells - 9, rotation := nextPort p }))
  ∧ (∀ (s : State), ∃ n, ∃ ds,
       s.settle.freeCells + 9 * n = s.freeCells
       ∧ ((s.settle.port .i).owed + (s.settle.port .t0).owed + (s.settle.port .t1).owed
           = (s.port .i).owed + (s.port .t0).owed + (s.port .t1).owed + n)
       ∧ (∀ p, s.settle.port p = { s.port p with owed := (s.settle.port p).owed, egress := (s.port p).egress ++ (if p = .i then ds else []) })
       ∧ (ds = [] ∨ ds = [{ content := .alert }])
       ∧ s.sameEntries s.settle ∧ s.sameLists s.settle ∧ s.samePolicy s.settle ∧ s.settle.alerts = s.alerts
       ∧ s.settle.resetPin = s.resetPin ∧ s.settle.clock = s.clock ∧ s.settle.lease = s.lease ∧ s.settle.warmPending = s.warmPending
       ∧ s.settle.freeCount = s.freeCount ∧ s.settle.pending = s.pending
       ∧ (if s.batch = none ∧ s.lease ≠ none ∧ s.alerts ≠ [] then
            s.settle.sequence = s.sequence + 1#16 ∧ s.settle.dropped = 0
              ∧ s.settle.batch = some { size := min 4 s.alerts.length, sequence := s.sequence + 1#16, carried := s.dropped, resend := none,
                                        sentOnce := false }
          else s.settle.sequence = s.sequence ∧ s.settle.dropped = s.dropped ∧ s.settle.batch = s.batch ∧ ds = []))

/-- R118: a CREDIT of eight bytes raises the peer credit counter by its increment; one of increment 0, of another length, or on a port that is not
UP is ignored. R117: the CREDIT the port sends carries all of owed, which
moves to announced. R114: a credited frame is taken against one announced credit. It is stored and the rest of its nine cells returns to free;
one longer than 576 bytes is not stored, all nine return, and OVERSIZE is posted; one on a port that is not UP is discarded as it arrives. -/
def Obligations.CreditIsCounted : Prop :=
  (∀ (s : State) (p : Port) (b1 b2 b3 n b5 b6 b7 : Byte), s.resetPin = false → (s.port p).state = .up → 1 ≤ n.toNat →
     (s.port p).peerCredit + n.toNat ≤ 65535 →
     exec (.creditArrival p [0x07#8, b1, b2, b3, n, b5, b6, b7]) s
       = .next (s.setPort p { s.port p with peerCredit := (s.port p).peerCredit + n.toNat }).settle)
  ∧ (∀ (s : State) (p : Port) (f : List Byte),
     (byteAt f 0 = 0x07#8 → (s.port p).state ≠ .up ∨ f.length ≠ 8 ∨ byteAt f 4 = 0#8 → exec (.creditArrival p f) s = .next s)
     ∧ ((s.port p).state ≠ .up → exec (.creditedFrameArrival p f) s = .next s))
  ∧ (∀ (s : State) (p : Port), s.resetPin = false → (s.port p).state = .up → 1 ≤ (s.port p).owed →
       exec (.creditSend p) s = .next (s.setPort p { s.port p with
         announced := (s.port p).announced + (s.port p).owed, owed := 0,
         wire := (s.port p).wire ++ [[0x07#8, 0#8, 0#8, 0#8, BitVec.ofNat 8 (s.port p).owed, 0#8, 0#8, 0#8]] }))
  ∧ ∀ (s : State) (p : Port) (f : List Byte), s.resetPin = false → (s.port p).state = .up → 1 ≤ (s.port p).announced →
    f.head? ≠ some 0x07#8 → f.head? ≠ some 0x08#8 →
    ∃ u, exec (.creditedFrameArrival p f) s = .next u.settle
      ∧ u.port p = { s.port p with announced := (s.port p).announced - 1,
                                   arrived := (s.port p).arrived ++ (if f.length ≤ 576 then [f] else []) }
      ∧ s.samePortsBut u p ∧ s.sameEntries u ∧ s.sameLists u ∧ s.sameCore u
      ∧ u.freeCells = s.freeCells + (if f.length ≤ 576 then 9 - (f.length + 63) / 64 else 9)
      ∧ (if f.length ≤ 576 then s.sameAlerts u else s.posted u { cause := .staleFrame .oversize, time := s.clock, link := some p })

/-- R119, whole. The teardown leaves the port in TRAINING with its record cleared (R130). -/
def Obligations.CreditPast65535TearsDown : Prop :=
  ∀ (s : State) (p : Port) (b1 b2 b3 n b5 b6 b7 : Byte), s.resetPin = false → (s.port p).state = .up → 1 ≤ n.toNat →
    65535 < (s.port p).peerCredit + n.toNat →
    ∃ u, exec (.creditArrival p [0x07#8, b1, b2, b3, n, b5, b6, b7]) s = .next u.settle
      ∧ u = (s.postOverrun p .peerCredit).teardown p .training .creditOverrun
      ∧ s.posted (s.postOverrun p .peerCredit) { cause := .creditOverrun .peerCredit, time := s.clock, link := some p }
      ∧ (u.port p).state = .training ∧ (u.port p).quiet
      ∧ ∀ c1 c2 c3 m c5 c6 c7 : Byte, exec (.creditArrival p [0x07#8, c1, c2, c3, m, c5, c6, c7]) u.settle = .next u.settle

/-- R115: a credited frame without announced credit is not stored, posts CREDIT_OVERRUN and tears the port down. -/
def Obligations.FrameWithoutCreditTearsDown : Prop :=
  ∀ (s : State) (p : Port) (f : List Byte), s.resetPin = false → (s.port p).state = .up → (s.port p).announced = 0 →
    f.head? ≠ some 0x07#8 → f.head? ≠ some 0x08#8 →
    ∃ u, exec (.creditedFrameArrival p f) s = .next u.settle
      ∧ u = (s.postOverrun p .noCredit).teardown p .training .creditOverrun
      ∧ s.posted (s.postOverrun p .noCredit) { cause := .creditOverrun .noCredit, time := s.clock, link := some p }
      ∧ (u.port p).state = .training ∧ (u.port p).quiet

/-- R8 and R73: frames discarded before they are matched. R62 and R46: a frame too short to hold its kind, initiator id and tag is discarded by
the consumer of its kind. `u` is the state without the frame among the port's arrivals. That a frame of unknown kind, or of no byte, is judged by
its kind before its length is the model's choice (log entry 8). -/
def Obligations.UnmatchedFramesAreDiscarded : Prop :=
  (∀ (s u : State) (p : Port) (f : List Byte), s.resetPin = false → s.takeNext .sorter p = some (f, u) →
    ∃ v, exec (.unknownKindDiscard p) s = .next v.settle ∧ u.onlyDiscards v f
      ∧ u.posted v { cause := .staleFrame (if f = [] then .shortFrame else .unknownKind), time := s.clock, link := some p })
  ∧ (∀ (s u : State) (p : Port) (f : List Byte) (k : Byte), s.taking p k f u →
    (p = .i → k = 0x02#8 ∨ k = 0x04#8 ∨ k = 0x06#8 ∨ k = 0x09#8) → (p ≠ .i → k = 0x01#8 ∨ k = 0x05#8 ∨ k = 0x09#8) →
    ∃ v, exec (.wrongLinkFrame p) s = .next v.settle ∧ u.onlyDiscards v f
      ∧ u.posted v { cause := .staleFrame .wrongLink, time := s.clock, link := some p, frameKind := some k,
                     initiator := some (frameInitiator f), tag := some (frameTag f) })
  ∧ ∀ (s u : State) (p : Port) (f : List Byte) (c : Instr), s.resetPin = false → f.length < 4 →
    ((∃ t k, p = targetPort t ∧ (k, c) ∈ targetFrames t ∧ s.takeKind p k = some (f, u))
      ∨ p = .i ∧ (c = .initiatorData ∧ s.takeKind p 0x03#8 = some (f, u) ∨ c = .initiatorAbort ∧ s.takeKind p 0x05#8 = some (f, u)
          ∨ c = .verdict ∧ s.takeNext .admission p = some (f, u))) →
    ∃ v, exec c s = .next v.settle ∧ u.onlyDiscards v f
      ∧ u.posted v { cause := .staleFrame .shortFrame, time := s.clock, link := some p }

/-! ## Tables -/

/-- The tables that the checks read: R41 and R42 (bootstrap), R20, R27 to R30, R34, R35, R37, R49 (quota and count), R139, R141 and R164 (the
operations), R23 and R152 (records, validation). That a WRITE_ENTRY of transfer length 0 has no body is the model's choice (log entry 29) and is
not stated here; that the operation is byte 0 of the parameter block and never the REQUEST's opcode is log entry 27. -/
def Obligations.TablesDecideAsGiven : Prop :=
  (∀ s : State, s.activeBank = (if s.active = .a then s.bankA else s.bankB) ∧ s.stagingBank = (if s.active = .a then s.bankB else s.bankA))
  ∧ (∀ (s : State) (n : InitiatorId),
      (s.bootstrap = true ↔ ∀ m, s.activeBank.initiators.get m = none)
      ∧ (s.bootstrap = true → s.quotaOf n = 2)
      ∧ (∀ r, s.bootstrap = false → s.activeBank.initiators.get n = some r → s.quotaOf n = r.quota)
      ∧ (s.hasDataRight n = true ↔ ∃ r, s.activeBank.initiators.get n = some r ∧ r.dataRight = true)
      ∧ (s.hasMgmtRight n = true ↔ ∃ r, s.activeBank.initiators.get n = some r ∧ r.mgmtRight = true)
      ∧ s.inUseCount n = (Finset.univ.filter fun i : EntryIndex => ((s.entry i).exchange.any fun x => x.initiator == n) = true).card)
  ∧ (∀ d : Direction, OpClass.permits .undefined d = false ∧ OpClass.permits .forbidden d = false ∧ OpClass.permits .control d = true
      ∧ (OpClass.permits .readBlocks d = true ↔ d = .dirIn) ∧ (OpClass.permits .writeBlocks d = true ↔ d = .dirOut)
      ∧ (OpClass.permits .query d = true ↔ d = .dirIn ∨ d = .noData))
  ∧ (∀ v : View, v.grants .readBlocks = v.readRight ∧ v.grants .query = v.readRight ∧ v.grants .writeBlocks = v.writeRight
      ∧ v.grants .control = v.controlRight
      ∧ (∀ c, v.holds c = true ↔ v.holdMode = .holdAll ∨ v.holdMode = .holdWrites ∧ c = .writeBlocks)
      ∧ (v.linkCode = 0x00#8 → v.link = .t0) ∧ (v.linkCode = 0x01#8 → v.link = .t1)
      ∧ (v.blockSizeCode = 0x00#8 → v.blockSize = 512) ∧ (v.blockSizeCode = 0x01#8 → v.blockSize = 4096))
  ∧ (∀ (b : Byte) (op : MgmtOp), mgmtOpOf b = some op ↔ (b, op) ∈
      [(0x01#8, .identify), (0x02#8, .claim), (0x03#8, .renew), (0x04#8, .releaseLease), (0x05#8, .readEntry), (0x06#8, .writeEntry),
       (0x07#8, .clearStaging), (0x08#8, .commit), (0x09#8, .readExchange), (0x0A#8, .holdList), (0x0B#8, .holdDecide),
       (0x0C#8, .alertAck), (0x0D#8, .endExchange), (0x0E#8, .linkState), (0x0F#8, .warmReset)])
  ∧ (∀ op : MgmtOp, op.leaseClass = false ↔ op ∈ [.identify, .claim, .readEntry, .readExchange, .holdList, .linkState])
  ∧ (∀ (x : Exchange) (op : MgmtOp), let q := requestParams x.requestBytes
      (x.namedOp = some op ↔ q.length = 4 ∧ mgmtOpOf (byteAt q 0) = some op ∧ op.argsOk q = true ∧ op.bodyOk x.direction x.length = true)
      ∧ (op.argsOk q = true ↔ match op with
          | .readEntry => byteAt q 3 = 0x00#8 ∨ byteAt q 3 = 0x01#8
          | .holdDecide => byteAt q 3 = 0x01#8 ∨ byteAt q 3 = 0x02#8
          | .writeEntry | .alertAck | .endExchange => byteAt q 3 = 0#8
          | .readExchange => byteAt q 2 = 0#8 ∧ byteAt q 3 = 0#8
          | _ => byteAt q 1 = 0#8 ∧ byteAt q 2 = 0#8 ∧ byteAt q 3 = 0#8)
      ∧ (1 ≤ x.length → (op.bodyOk x.direction x.length = true ↔ (x.direction = .dirOut ↔ op = .writeEntry))))
  ∧ (∀ (b : Byte) (t : Table), (tableOf b = some t ↔ (b, t) ∈ [(0x01#8, .initiators), (0x02#8, .views), (0x03#8, .classes), (0x04#8, .replies)])
      ∧ (t, t.size) ∈ [(Table.initiators, 16), (Table.views, 128), (Table.classes, 256), (Table.replies, 32)])
  ∧ ∀ b : Bank,
      let badView := fun k : ViewIndex => ∃ v, b.views.get k = some v ∧ (v.mask = 0#16 ∨ v.linkCode ≠ 0x00#8 ∧ v.linkCode ≠ 0x01#8
        ∨ v.blockSizeCode ≠ 0x00#8 ∧ v.blockSizeCode ≠ 0x01#8 ∨ 2 ^ 40 < v.base.toNat + v.extent)
      let badReply := fun k : ReplyIndex => ∃ r, b.replies.get k = some r
        ∧ (r.linkCode ≠ 0x00#8 ∧ r.linkCode ≠ 0x01#8 ∨ b.classes.get r.opcode.toFin ≠ .query)
      let noManager := (∃ n, b.initiators.get n ≠ none) ∧ ∀ n r, b.initiators.get n = some r → r.mgmtRight = false
      (∀ k, badView k → (∀ j, j < k → ¬badView j) → b.firstFault = some (.views, k.val))
      ∧ ((∀ k, ¬badView k) →
          (∀ k, badReply k → (∀ j, j < k → ¬badReply j) → b.firstFault = some (.replies, k.val))
          ∧ ((∀ k, ¬badReply k) →
              (noManager → b.firstFault = some (.initiators, 0xFFFF)) ∧ (¬noManager → b.firstFault = none)))

/-! ## Admission -/

/-- R45 to R53 and R56: the first check that applies, in the order of R45's table, decides the refusal. -/
def Obligations.ChecksApplyInOrder : Prop :=
  ∀ (s : State) (f : List Byte), let q := readRequest f
    (requestFormOk f = false → s.judge f = .refuse 0xC1#8 none)
    ∧ (requestFormOk f = true →
      (s.bootstrap = true → q.unit ≠ 0xFF#8 → s.judge f = .refuse 0xC2#8 none)
      ∧ (s.bootstrap = false → s.initiatorRecord q.initiator = none → s.judge f = .refuse 0xC3#8 none)
      ∧ ((s.bootstrap = true ∧ q.unit = 0xFF#8 ∨ s.bootstrap = false ∧ s.initiatorRecord q.initiator ≠ none) →
        ((∃ i x, (s.entry i).exchange = some x ∧ x.closed = false ∧ x.initiator = q.initiator ∧ x.tag = q.tag) →
          s.judge f = .refuse 0xC4#8 none)
        ∧ ((∀ i, ¬(s.entry i).holdsPair q.initiator q.tag) →
          (s.quotaOf q.initiator ≤ s.inUseCount q.initiator → s.judge f = .refuse 0xC5#8 none)
          ∧ (s.inUseCount q.initiator < s.quotaOf q.initiator →
            ((∀ i, (s.entry i).exchange ≠ none) → s.judge f = .refuse 0xC7#8 none)
            ∧ ∀ i, (s.entry i).exchange = none → (∀ j, j < i → (s.entry j).exchange ≠ none) →
              (q.unit = 0xFF#8 → s.judge f = .manage i)
              ∧ (q.unit ≠ 0xFF#8 → s.judge f = s.judgeStorage i q)))))

/-- Steps 8 to 16 (R51 to R56), for a request to a unit of storage: the first check that applies decides; then the hold of step 14, the reply of
step 15 where its snapshot's cells are free, and the link of steps 16 and 17. -/
def Obligations.StorageChecksApplyInOrder : Prop :=
  ∀ (s : State) (i : EntryIndex) (q : Request),
    (s.activeBank.matchView q.initiator q.unit = none → s.judgeStorage i q = .refuse 0xC8#8 none)
    ∧ ∀ k v c, s.activeBank.matchView q.initiator q.unit = some (k, v) → s.activeBank.classOf q.opcode = c →
      (c = .undefined → s.judgeStorage i q = .refuse 0xC9#8 (some (k, v)))
      ∧ (c = .forbidden → s.judgeStorage i q = .refuse 0xCA#8 (some (k, v)))
      ∧ (c ≠ .undefined → c ≠ .forbidden →
        (c.permits q.direction = false → s.judgeStorage i q = .refuse 0xCB#8 (some (k, v)))
        ∧ (c.permits q.direction = true →
          (s.hasDataRight q.initiator = false ∨ v.grants c = false → s.judgeStorage i q = .refuse 0xCC#8 (some (k, v)))
          ∧ (s.hasDataRight q.initiator = true → v.grants c = true →
            (c = .readBlocks ∨ c = .writeBlocks → q.count = 0 ∨ v.extent < q.block.toNat + q.count →
              s.judgeStorage i q = .refuse 0xCD#8 (some (k, v)))
            ∧ (c = .readBlocks ∨ c = .writeBlocks → 1 ≤ q.count → q.block.toNat + q.count ≤ v.extent → q.count * v.blockSize ≠ q.length →
              s.judgeStorage i q = .refuse 0xCE#8 (some (k, v)))
            ∧ ((c = .readBlocks ∨ c = .writeBlocks → 1 ≤ q.count ∧ q.block.toNat + q.count ≤ v.extent ∧ q.count * v.blockSize = q.length) →
              (v.holds c = true → s.judgeStorage i q = if s.holdQueue.length < 16 then .hold i k v else .refuse 0xCF#8 none)
              ∧ (v.holds c = false →
                let onLink := if (s.port (targetPort v.link)).state = .up then Verdict.issue i k v else .refuse 0xD0#8 none
                (c ≠ .query ∨ s.activeBank.matchReply v q.opcode q.params = none → s.judgeStorage i q = onLink)
                ∧ (c = .query → ∀ r record, s.activeBank.matchReply v q.opcode q.params = some (r, record) →
                  let n := if q.direction = .dirIn then min record.data.length q.length else 0
                  s.judgeStorage i q = if 1 + (n + 63) / 64 ≤ s.freeCells then .reply i k r record else onLink))))))

/-- R31: the view that matches is the valid one of the lowest index that serves the initiator on the virtual unit. R40: the reply record that
matches is the valid one of the lowest index on the view's link and physical unit, of the opcode, and of selector ANY or equal to byte 0 of the
parameter block that is present. -/
def Obligations.LowestServingRecordsMatch : Prop :=
  (∀ (b : Bank) (n : InitiatorId) (unit : Byte) (k : ViewIndex) (v : View),
    b.matchView n unit = some (k, v)
      ↔ b.views.get k = some v ∧ v.mask.getLsbD n.val = true ∧ v.virtualUnit = unit
        ∧ ∀ j, j < k → ∀ w, b.views.get j = some w → ¬(w.mask.getLsbD n.val = true ∧ w.virtualUnit = unit))
  ∧ ∀ (b : Bank) (v : View) (opcode : Byte) (params : List Byte) (k : ReplyIndex) (r : ReplyRecord),
    let serves := fun w : ReplyRecord => linkOfCode w.linkCode = v.link ∧ w.unit = v.unit ∧ w.opcode = opcode
      ∧ (w.selector = none ∨ ∃ c rest, params = c :: rest ∧ w.selector = some c)
    b.matchReply v opcode params = some (k, r)
      ↔ b.replies.get k = some r ∧ serves r ∧ ∀ j, j < k → ∀ w, b.replies.get j = some w → ¬serves w

/-- R58 and R59: a refusal touches the request's cells, port I's queue and, where the view asks for it or the code is CAh, the alert queue. -/
def Obligations.RefusalAnswersInFirstCell : Prop :=
  ∀ (s u : State) (f : List Byte) (code : Byte) (denial : Option (ViewIndex × View)), s.resetPin = false →
    s.takeNext .admission .i = some (f, u) → 4 ≤ f.length → u.judge f = .refuse code denial → (u.port .i).state = .up →
    ∃ v, exec .verdict s = .next v.settle
      ∧ u.queuedOn v .i [refusalStatus f code]
      ∧ v.freeCells = u.freeCells + ((f.length + 63) / 64 - 1) ∧ u.sameEntries v ∧ u.sameLists v ∧ u.sameCore v
      ∧ (match denial with
        | none => u.sameAlerts v
        | some (k, w) =>
          if w.alertOnDeny = true ∨ code = 0xCA#8 then
            u.posted v { cause := .denial code, time := s.clock, initiator := some (frameInitiator f), tag := some (frameTag f),
                         view := some k, link := some (targetPort w.link) }
          else u.sameAlerts v)

/-- R57, with R11, R13 and R53: an issue. -/
def Obligations.IssueQueuesRewrittenRequest : Prop :=
  ∀ (s u : State) (f : List Byte) (i : EntryIndex) (k : ViewIndex) (w : View), s.resetPin = false →
    s.takeNext .admission .i = some (f, u) → 4 ≤ f.length → u.judge f = .issue i k w → (u.port (targetPort w.link)).state = .up →
    let q := readRequest f
    let c := u.activeBank.classOf q.opcode
    let block := if c = .readBlocks ∨ c = .writeBlocks then w.base + q.block else q.block
    let inc := (u.entry i).inc + 1
    ∃ v, exec .verdict s = .next v.settle
      ∧ v.entry i = { inc := inc, exchange := some {
          state := .issued, kind := .data, initiator := q.initiator, tag := q.tag, opcode := q.opcode, direction := q.direction,
          length := q.length, proceeded := if q.direction = .dirOut then some 0 else none, view := some k,
          routing := some { link := w.link, unit := w.unit, block := block, commandSent := false },
          storedRequest := some .inQueue, deadline := some { kind := .exchange, due := s.clock + BitVec.ofNat 32 (w.timeout * 10) } } }
      ∧ u.sameEntriesBut v i ∧ u.sameLists v ∧ u.sameCore v ∧ u.sameAlerts v ∧ v.freeCells = u.freeCells
      ∧ u.queuedOn v (targetPort w.link) [towardTarget { index := i, inc := inc }
          (.request w.unit q.opcode q.direction q.length block q.count q.params) f]

/-- R54 and R93: a hold. -/
def Obligations.HoldQueuesPlaceAndAlert : Prop :=
  ∀ (s u : State) (f : List Byte) (i : EntryIndex) (k : ViewIndex) (w : View), s.resetPin = false →
    s.takeNext .admission .i = some (f, u) → 4 ≤ f.length → u.judge f = .hold i k w →
    let q := readRequest f
    let c := u.activeBank.classOf q.opcode
    let block := if c = .readBlocks ∨ c = .writeBlocks then w.base + q.block else q.block
    let r : EntryRef := { index := i, inc := (u.entry i).inc + 1 }
    ∃ v, exec .verdict s = .next v.settle
      ∧ v.entry i = { inc := r.inc, exchange := some {
          state := .held, kind := .data, initiator := q.initiator, tag := q.tag, opcode := q.opcode, direction := q.direction,
          length := q.length, proceeded := if q.direction = .dirOut then some 0 else none, view := some k,
          routing := some { link := w.link, unit := w.unit, block := block, commandSent := false },
          storedRequest := some (.inCells f), deadline := some { kind := .hold, due := s.clock + BitVec.ofNat 32 (w.holdWait * 100) } } }
      ∧ u.sameEntriesBut v i ∧ v.holdQueue = u.holdQueue ++ [{ entry := r, timeoutMs := w.timeout * 10 }] ∧ v.startList = u.startList
      ∧ (∀ p, v.port p = u.port p) ∧ u.sameCore v ∧ v.freeCells = u.freeCells
      ∧ u.posted v { cause := .holdArrival, time := s.clock, entry := some r, initiator := some q.initiator, tag := some q.tag,
                     view := some k, link := some (targetPort w.link),
                     request := some { opcode := q.opcode, block := block, count := q.count } }

/-- R55 and R104: a reply. Its place joins the tail of the start list; where an ended exchange of the same entry has left a place there, that one
gives way (log entry 30). -/
def Obligations.ReplyTakesSnapshot : Prop :=
  ∀ (s u : State) (f : List Byte) (i : EntryIndex) (k : ViewIndex) (r : ReplyIndex) (record : ReplyRecord), s.resetPin = false →
    s.takeNext .admission .i = some (f, u) → 4 ≤ f.length → u.judge f = .reply i k r record →
    let q := readRequest f
    let n := if q.direction = .dirIn then min record.data.length q.length else 0
    ∃ v, exec .verdict s = .next v.settle
      ∧ v.entry i = { inc := (u.entry i).inc + 1, exchange := some {
          state := .replying, kind := .queryReply, initiator := q.initiator, tag := q.tag, opcode := q.opcode, direction := q.direction,
          length := q.length, proceeded := if q.direction = .dirOut then some 0 else none, view := some k, replyRecord := some r,
          snapshot := some { code := record.code, data := record.data.take n, started := false } } }
      ∧ u.sameEntriesBut v i ∧ v.holdQueue = u.holdQueue
      ∧ v.startList = u.startList.filter (fun a => a.index ≠ i) ++ [{ index := i, inc := (u.entry i).inc + 1 }]
      ∧ (∀ p, v.port p = u.port p) ∧ u.sameCore v ∧ u.sameAlerts v
      ∧ v.freeCells + (1 + (n + 63) / 64) = u.freeCells + (f.length + 63) / 64

/-- R136: a management body of 1 to 300 bytes is granted whole by one PROCEED; a longer one is answered E8h at the verdict. R137: an accepted body
frame joins the chain; with the last the operation is performed, whichever the parameter block names, and every one but WRITE_ENTRY is answered
E8h, as it takes no body (R139, R164). -/
def Obligations.ManagementBodyIsGrantedAndTaken : Prop :=
  (∀ (s u : State) (f : List Byte) (i : EntryIndex), s.resetPin = false → s.takeNext .admission .i = some (f, u) → 4 ≤ f.length →
    u.judge f = .manage i → (readRequest f).direction = .dirOut → 1 ≤ (readRequest f).length → (readRequest f).length ≤ 300 →
    let q := readRequest f
    let r : EntryRef := { index := i, inc := (u.entry i).inc + 1 }
    ∃ v, exec .verdict s = .next v.settle
      ∧ v.entry i = { inc := r.inc, exchange := some {
          state := .mgmtBody, kind := .mgmt, initiator := q.initiator, tag := q.tag, opcode := q.opcode, direction := .dirOut,
          length := q.length, proceeded := some q.length, storedRequest := some (.inCells f), operation := q.params.head?,
          deadline := some { kind := .body, due := s.clock + 2000#32 } } }
      ∧ u.sameEntriesBut v i ∧ u.sameLists v ∧ u.sameCore v ∧ u.sameAlerts v ∧ v.freeCells = u.freeCells
      ∧ u.queuedOn v .i [{ content := .made { initiator := q.initiator, tag := q.tag, body := .proceed q.length }, entry := some r }])
  ∧ (∀ (s u : State) (f : List Byte) (i : EntryIndex), s.resetPin = false → s.takeNext .admission .i = some (f, u) → 4 ≤ f.length →
    u.judge f = .manage i → (readRequest f).direction = .dirOut → 300 < (readRequest f).length →
    exec .verdict s = State.concluded f i { state := u.opened f i, answer := [], code := 0xE8#8 })
  ∧ ∀ (s u : State) (f : List Byte) (i : EntryIndex) (x : Exchange), s.taking .i 0x03#8 f u → u.matchInitiator f = some (i, x) →
    x.state = .mgmtBody → x.parked = none → dataFormOk f = true → dataOffset f = x.moved → x.moved + dataLength f ≤ x.proceeded.getD 0 →
    let y := { x with moved := x.moved + dataLength f, bodyFrames := x.bodyFrames ++ [f] }
    let z := { y with state := .mgmtAnswer, deadline := none }
    let v := u.setExchange i z
    (y.moved ≠ x.length → exec .initiatorData s = .next (u.setExchange i y).settle)
    ∧ (y.moved = x.length →
      exec .initiatorData s = .next (State.conclude i z (operationResult v i z)).settle
      ∧ ∀ code op c, (code, op, c) ∈ mgmtCommands → (requestParams x.requestBytes).head? = some code →
        exec (c .lastBodyFrame) s = exec .initiatorData s
        ∧ (op ≠ .writeEntry → x.direction = .dirOut → 1 ≤ x.length →
            operationResult v i z = { state := v, answer := [], code := 0xE8#8 }))

/-! ## Data phase -/

/-- R16: a target's frame matches exactly when its seven conditions hold, and the first condition that fails names the detail, with the entry and
incarnation of the tag from condition 3 on. Routing is present for kind DATA alone (EventsKeepExchanges). -/
def Obligations.TargetMatchTakesSevenConditions : Prop :=
  (∀ (s : State) (t : Target) (f : List Byte) (i : EntryIndex) (x : Exchange) (g : Routing),
    s.matchTarget t f = .matched i x g
      ↔ (frameTag f).toNat ≤ 0xFF ∧ frameInitiator f = 0 ∧ i.val = (frameTag f).toNat % 64 ∧ (s.entry i).exchange = some x
        ∧ (s.entry i).inc.val = (frameTag f).toNat / 64 ∧ x.routing = some g ∧ g.link = t ∧ g.commandSent = true)
  ∧ ∀ (s : State) (t : Target) (f : List Byte) (r : EntryRef), r.index.val = (frameTag f).toNat % 64 →
    (0xFF < (frameTag f).toNat → s.matchTarget t f = .stale .tagRange none)
    ∧ ((frameTag f).toNat ≤ 0xFF → frameInitiator f ≠ 0 → s.matchTarget t f = .stale .initiatorId none)
    ∧ (frameInitiator f = 0 → r.inc.val = (frameTag f).toNat / 64 →
      ((s.entry r.index).exchange = none → s.matchTarget t f = .stale .entryFree (some r))
      ∧ ∀ x, (s.entry r.index).exchange = some x →
        ((s.entry r.index).inc ≠ r.inc → s.matchTarget t f = .stale .incarnation (some r))
        ∧ ((s.entry r.index).inc = r.inc →
          (x.routing = none → s.matchTarget t f = .stale .notData (some r))
          ∧ ∀ g, x.routing = some g →
            (g.link ≠ t → s.matchTarget t f = .stale .otherLink (some r))
            ∧ (g.link = t → g.commandSent = false → s.matchTarget t f = .stale .notSent (some r))))

/-- R16: a stale PROCEED, DATA or STATUS is dropped with a STALE_FRAME alert that names link, tag and detail, a stale ABORT_DONE without one. R69:
so are those that reach a parked STATUS, with detail AFTER_STATUS. R83: an ABORT_DONE in ISSUED or MOVING is NO_ABORT. R66 and R67: initiator DATA
on a held entry, on one in ABORTING, and on none. -/
def Obligations.StaleFramesAreDropped : Prop :=
  (∀ (s u : State) (t : Target) (f : List Byte) (k : Byte) (c : Instr), (k, c) ∈ targetFrames t → s.taking (targetPort t) k f u →
     (∀ d r, u.matchTarget t f = .stale d r →
       ∃ v, exec c s = .next v.settle ∧ u.onlyDiscards v f
         ∧ (if k = 0x06#8 then u.sameAlerts v
            else u.posted v { cause := .staleFrame d, time := s.clock, link := some (targetPort t), tag := some (frameTag f), entry := r }))
     ∧ (∀ i x g, u.matchTarget t f = .matched i x g → x.parked ≠ none →
       ∃ v, exec c s = .next v.settle ∧ u.onlyDiscards v f
         ∧ (if k = 0x06#8 then u.sameAlerts v
            else u.posted v { cause := .staleFrame .afterStatus, time := s.clock, link := some (targetPort t), tag := some (frameTag f),
                              entry := some (u.refOf i) }))
     ∧ (∀ i x g, k = 0x06#8 → u.matchesOpen t f i x g →
       ∃ v, exec c s = .next v.settle ∧ u.onlyDiscards v f
         ∧ u.posted v { cause := .staleFrame .noAbort, time := s.clock, link := some (targetPort t), tag := some (frameTag f),
                        entry := some (u.refOf i) }))
  ∧ (∀ (s u : State) (f : List Byte), s.taking .i 0x03#8 f u →
       (∀ i x, u.matchInitiator f = some (i, x) → x.state = .held → x.parked = none →
         ∃ v, exec .initiatorData s = .next v.settle ∧ u.onlyDiscards v f
           ∧ u.posted v { cause := .staleFrame .held, time := s.clock, link := some .i, initiator := some (frameInitiator f),
                          tag := some (frameTag f), entry := some (u.refOf i) })
       ∧ (∀ i x, u.matchInitiator f = some (i, x) → x.state = .aborting → x.parked = none →
         ∃ v, exec .initiatorData s = .next v.settle ∧ u.onlyDiscards v f ∧ u.sameAlerts v)
       ∧ (u.matchInitiator f = none →
         ∃ v, exec .initiatorData s = .next v.settle ∧ u.onlyDiscards v f
           ∧ u.posted v { cause := .staleFrame .noExchange, time := s.clock, link := some .i, initiator := some (frameInitiator f),
                          tag := some (frameTag f) }))

/-- R81, whole, with the form checks it names: R62's of a STATUS, its own of an ABORT_DONE. No entry in ABORTING has a parked STATUS
(EventsKeepExchanges). -/
def Obligations.AbortingDiscards : Prop :=
  (∀ f : List Byte, statusFormOk f = true ↔ f.length = 12 + (byteAt f 6).toNat ∧ (byteAt f 6).toNat ≤ 16 ∧ (byteAt f 1).toNat % 16 = 0
      ∧ (byteAt f 5).toNat < 4 ∧ byteAt f 7 = 0#8 ∧ byteAt f 11 = 0#8)
  ∧ (∀ f : List Byte, abortDoneFormOk f = true ↔ f.length = 8 ∧ (byteAt f 4 = 0x01#8 ∨ byteAt f 4 = 0x02#8) ∧ (byteAt f 1).toNat % 16 = 0
      ∧ byteAt f 5 = 0#8 ∧ byteAt f 6 = 0#8 ∧ byteAt f 7 = 0#8)
  ∧ ∀ (s u : State) (t : Target) (f : List Byte) (i : EntryIndex) (x : Exchange) (g : Routing) (k : Byte) (c : Instr),
    u.matchesAborting t f i x g → (k, c) ∈ targetFrames t → s.taking (targetPort t) k f u →
    (k = 0x04#8 → statusFormOk f = false) → (k = 0x06#8 → abortDoneFormOk f = false) →
    ∃ v, exec c s = .next v.settle ∧ u.onlyDiscards v f ∧ u.sameAlerts v

/-- R63 and R65: a target's PROCEED and a target's DATA accepted. That a PROCEED longer than eight bytes goes on as eight in the cells it arrived in
is the model's reading (log entry 16). -/
def Obligations.ProceedAndDataAreForwarded : Prop :=
  (∀ (s u : State) (t : Target) (f : List Byte) (i : EntryIndex) (x : Exchange) (g : Routing) (p : Nat),
     s.taking (targetPort t) 0x02#8 f u → u.matchesOpen t f i x g → proceedFormOk f = true → x.direction = .dirOut → x.proceeded = some p →
     p + proceedWindow f ≤ x.length → (u.port .i).state = .up →
     ∃ v, exec (.targetProceed t) s = .next v.settle
       ∧ v.entry i = { u.entry i with exchange := some { x with state := .moving, proceeded := some (p + proceedWindow f) } }
       ∧ u.sameEntriesBut v i ∧ u.sameLists v ∧ u.sameCore v ∧ u.sameAlerts v ∧ v.freeCells = u.freeCells
       ∧ u.queuedOn v .i [forwarded (u.refOf i) x (.proceed (proceedWindow f)) f])
  ∧ (∀ (s u : State) (t : Target) (f : List Byte) (i : EntryIndex) (x : Exchange) (g : Routing),
       s.taking (targetPort t) 0x03#8 f u → u.matchesOpen t f i x g → dataFormOk f = true → x.direction = .dirIn → dataOffset f = x.moved →
       x.moved + dataLength f ≤ x.length → (u.port .i).state = .up →
       ∃ v, exec (.targetData t) s = .next v.settle
         ∧ v.entry i = { u.entry i with exchange := some { x with
             state := .moving, moved := x.moved + dataLength f, dataWaiting := x.dataWaiting + 1 } }
         ∧ u.sameEntriesBut v i ∧ u.sameLists v ∧ u.sameCore v ∧ u.sameAlerts v ∧ v.freeCells = u.freeCells
         ∧ u.queuedOn v .i [forwarded (u.refOf i) x (.data (dataOffset f) (dataPayload f)) f])

/-- R68 and R69: an accepted STATUS is forwarded with the bridge's residue and its entry freed, or parked while DATA waits. -/
def Obligations.StatusIsForwardedOrParked : Prop :=
  ∀ (s u : State) (t : Target) (f : List Byte) (i : EntryIndex) (x : Exchange) (g : Routing),
    s.taking (targetPort t) 0x04#8 f u → u.matchesOpen t f i x g → statusFormOk f = true → (u.port .i).state = .up →
    ∃ v, exec (.targetStatus t) s = .next v.settle ∧ u.sameCore v ∧ u.sameAlerts v
      ∧ (x.dataWaiting = 0 →
          u.freed v i ∧ v.freeCells = u.freeCells + x.ownCells
          ∧ u.queuedOn v .i [forwarded (u.refOf i) x
              (.status (statusCode f) true (statusResidue f != x.length - x.moved) (x.length - x.moved) (statusDetail f)) f])
      ∧ (0 < x.dataWaiting →
          v.entry i = { u.entry i with exchange := some { x with deadline := none, parked := some {
            code := statusCode f, residue := statusResidue f, detail := statusDetail f, cells := (f.length + 63) / 64 } } }
          ∧ u.sameEntriesBut v i ∧ u.sameLists v ∧ (∀ p, v.port p = u.port p) ∧ v.freeCells = u.freeCells)

/-- R82 and R83: a target's answer on an entry in ABORTING frees it, and is the closing frame unless the exchange has closed. -/
def Obligations.TargetAnswerEndsAbort : Prop :=
  ∀ (s u : State) (t : Target) (f : List Byte) (i : EntryIndex) (x : Exchange) (g : Routing), u.matchesAborting t f i x g →
    (u.port .i).state = .up →
    (s.taking (targetPort t) 0x04#8 f u → statusFormOk f = true →
      ∃ v, exec (.targetStatus t) s = .next v.settle ∧ u.freed v i ∧ u.sameCore v ∧ u.sameAlerts v
        ∧ (x.closed = true → (∀ p, v.port p = u.port p) ∧ v.freeCells = u.freeCells + (f.length + 63) / 64 + x.ownCells)
        ∧ (x.closed = false → v.freeCells = u.freeCells + x.ownCells ∧ u.queuedOn v .i [forwarded (u.refOf i) x
            (.status (statusCode f) true (statusResidue f != x.length - x.moved) (x.length - x.moved) (statusDetail f)) f]))
    ∧ (s.taking (targetPort t) 0x06#8 f u → abortDoneFormOk f = true →
      ∃ v, exec (.targetAbortDone t) s = .next v.settle ∧ u.freed v i ∧ u.sameCore v ∧ u.sameAlerts v
        ∧ (x.closed = true → (∀ p, v.port p = u.port p) ∧ v.freeCells = u.freeCells + (f.length + 63) / 64 + x.ownCells)
        ∧ (x.closed = false → v.freeCells = u.freeCells + x.ownCells ∧ u.queuedOn v .i [forwarded (u.refOf i) x (.abortDone .aborted) f]))

/-- R64: initiator DATA accepted toward its target. -/
def Obligations.InitiatorDataIsForwarded : Prop :=
  ∀ (s u : State) (f : List Byte) (i : EntryIndex) (x : Exchange) (g : Routing),
    s.taking .i 0x03#8 f u → u.matchInitiator f = some (i, x) → (x.state = .issued ∨ x.state = .moving) → x.parked = none →
    x.routing = some g → dataFormOk f = true → x.direction = .dirOut → dataOffset f = x.moved →
    x.moved + dataLength f ≤ x.proceeded.getD 0 → (u.port (targetPort g.link)).state = .up →
    ∃ v, exec .initiatorData s = .next v.settle
      ∧ v.entry i = { u.entry i with exchange := some { x with moved := x.moved + dataLength f } }
      ∧ u.sameEntriesBut v i ∧ u.sameLists v ∧ u.sameCore v ∧ u.sameAlerts v ∧ v.freeCells = u.freeCells
      ∧ u.queuedOn v (targetPort g.link) [towardTarget (u.refOf i) (.data (dataOffset f) (dataPayload f)) f]

/-- R70 with R62, R63 and R65: a phase violation by a target's PROCEED, DATA or STATUS. The form comes first (R62); that of the checks of DATA the
direction then comes before the offset, and the offset before the length, is the model's choice (log entry 31). -/
def Obligations.TargetViolationsEndExchange : Prop :=
  ∀ (s u : State) (t : Target) (f : List Byte) (i : EntryIndex) (x : Exchange) (g : Routing) (d : ViolationDetail) (k : Byte) (c : Instr),
    (k, c) ∈ targetFrames t → s.taking (targetPort t) k f u → u.matchesOpen t f i x g →
    (k = 0x02#8 ∧ (proceedFormOk f = false ∧ d = .form
        ∨ proceedFormOk f = true ∧ x.direction ≠ .dirOut ∧ d = .direction
        ∨ proceedFormOk f = true ∧ x.direction = .dirOut ∧ x.length < x.proceeded.getD 0 + proceedWindow f ∧ d = .overLength)
      ∨ k = 0x03#8 ∧ (dataFormOk f = false ∧ d = .form
        ∨ dataFormOk f = true ∧ x.direction ≠ .dirIn ∧ d = .direction
        ∨ dataFormOk f = true ∧ x.direction = .dirIn ∧ dataOffset f ≠ x.moved ∧ d = .offset
        ∨ dataFormOk f = true ∧ x.direction = .dirIn ∧ dataOffset f = x.moved ∧ x.length < x.moved + dataLength f ∧ d = .overLength)
      ∨ k = 0x04#8 ∧ statusFormOk f = false ∧ d = .form) →
    ∃ v, exec c s = .next v.settle ∧ u.violated v i x d f ∧ u.abortStarted v i x g .phase 0xD4#8 ((f.length + 63) / 64)

/-- R70 and R71 with R62, R64, R66, R69 and R137: a phase violation by initiator DATA, in ISSUED or MOVING with the command sent or not, on a
management body, and where no target activity remains. That after the form the direction comes before the offset, and the offset before the window,
is the model's choice (log entry 31); that well-formed DATA after a parked STATUS has detail DIRECTION is its reading (log entry 20). -/
def Obligations.InitiatorViolationsEndExchange : Prop :=
  ∀ (s u : State) (f : List Byte) (i : EntryIndex) (x : Exchange) (d : ViolationDetail),
    s.taking .i 0x03#8 f u → u.matchInitiator f = some (i, x) →
    (x.parked = none ∧ (x.state = .issued ∨ x.state = .moving) ∧ x.routing ≠ none
        ∧ (dataFormOk f = false ∧ d = .form
          ∨ dataFormOk f = true ∧ x.direction ≠ .dirOut ∧ d = .direction
          ∨ dataFormOk f = true ∧ x.direction = .dirOut ∧ dataOffset f ≠ x.moved ∧ d = .offset
          ∨ dataFormOk f = true ∧ x.direction = .dirOut ∧ dataOffset f = x.moved ∧ x.proceeded.getD 0 < x.moved + dataLength f
            ∧ d = .overWindow)
      ∨ x.parked = none ∧ x.state = .mgmtBody
        ∧ (dataFormOk f = false ∧ d = .form
          ∨ dataFormOk f = true ∧ dataOffset f ≠ x.moved ∧ d = .offset
          ∨ dataFormOk f = true ∧ dataOffset f = x.moved ∧ x.proceeded.getD 0 < x.moved + dataLength f ∧ d = .overWindow)
      ∨ (x.parked ≠ none ∨ x.state = .replying ∨ x.state = .mgmtAnswer) ∧ d = (if dataFormOk f = true then .direction else .form)) →
    ∃ v, exec .initiatorData s = .next v.settle ∧ u.violated v i x d f

/-! ## Aborts and expiries -/

/-- R85: a malformed ABORT is dropped with its alert; a well-formed one that matches no entry, or one in ABORTING, is answered NOT_FOUND in its own
cell, and so is one on a parked STATUS (R69). R86: an ABORT on an exchange that no target serves or has seen, its REQUEST in the target's queue or
not, frees it with ABORT_DONE ABORTED in the ABORT's own cell. R87: one on an exchange whose command has been sent starts an abort toward the
target, the exchange still open. -/
def Obligations.AbortsFromInitiator : Prop :=
  ∀ (s u : State) (f : List Byte), s.taking .i 0x05#8 f u →
    (abortFormOk f = false →
      ∃ v, exec .initiatorAbort s = .next v.settle ∧ u.onlyDiscards v f
        ∧ u.posted v { cause := .staleFrame .form, time := s.clock, link := some .i, initiator := some (frameInitiator f),
                       tag := some (frameTag f) })
    ∧ (abortFormOk f = true → (u.port .i).state = .up →
      (((∀ i, ¬(u.entry i).holdsPair (frameInitiator f) (frameTag f))
          ∨ ∃ i x, u.matchInitiator f = some (i, x) ∧ (x.state = .aborting ∨ x.parked ≠ none)) →
        ∃ v, exec .initiatorAbort s = .next v.settle ∧ u.queuedOn v .i [notFoundAnswer f]
          ∧ u.sameEntries v ∧ u.sameLists v ∧ u.sameCore v ∧ u.sameAlerts v ∧ v.freeCells = u.freeCells)
      ∧ (∀ i x, u.matchInitiator f = some (i, x) → x.state ≠ .aborting → x.parked = none →
        (¬x.awaitsTarget →
          ∃ v, exec .initiatorAbort s = .next v.settle ∧ u.sameAlerts v
            ∧ u.unseenEnded v i x (forwarded (u.refOf i) x (.abortDone .aborted) f) 0)
        ∧ (∀ g, x.routing = some g → g.commandSent = true →
          ∃ v, exec .initiatorAbort s = .next v.settle
            ∧ v.entry i = { u.entry i with exchange := some { x with
                state := .aborting, closed := false, origin := some .initiator,
                deadline := some { kind := .grace, due := s.clock + 250#32 } } }
            ∧ u.sameEntriesBut v i ∧ u.sameLists v ∧ u.sameCore v ∧ u.sameAlerts v ∧ v.freeCells = u.freeCells + (f.length + 63) / 64
            ∧ u.queuedOn v (targetPort g.link) [bridgeAbort (u.refOf i)])))

/-- R79: an exchange deadline expires with the command sent. R78: it expires before the command has been sent: its REQUEST is withdrawn and no
ABORT is sent. -/
def Obligations.ExchangeDeadlineExpires : Prop :=
  ∀ (s : State) (i : EntryIndex) (x : Exchange), s.due i .exchange x →
    ∃ v, exec (.exchangeDeadlineExpiry i) s = .next v.settle ∧ s.endedWith v i x .timeout 0xD3#8 0
      ∧ (x.awaitsTarget → s.posted v { exchangeAlert s (.timeout .sent) i x with link := targetLinkOf x })
      ∧ (¬x.awaitsTarget → s.posted v { exchangeAlert s (.timeout .notSent) i x with link := targetLinkOf x })

/-- R84: grace ends. R95 and R138: a hold expires with D2h, a body wait with D3h. -/
def Obligations.EntryTimersFree : Prop :=
  (∀ (s : State) (i : EntryIndex) (x : Exchange), s.due i .grace x →
     ∃ v, exec (.graceExpiry i) s = .next v.settle ∧ s.freed v i ∧ s.sameCore v ∧ s.sameAlerts v ∧ v.freeCells = s.freeCells + x.ownCells
       ∧ s.queuedOn v .i (if x.closed then [] else [bridgeAbortDone (s.refOf i) x]))
  ∧ (∀ (s : State) (i : EntryIndex) (x : Exchange),
       (s.due i .hold x →
         ∃ v, exec (.holdExpiry i) s = .next v.settle ∧ s.freed v i ∧ s.sameCore v ∧ v.freeCells = s.freeCells + x.ownCells
           ∧ s.queuedOn v .i [bridgeStatus (s.refOf i) x 0xD2#8]
           ∧ s.posted v { exchangeAlert s .holdExpired i x with link := targetLinkOf x })
       ∧ (s.due i .body x → x.routing = none →
         ∃ v, exec (.bodyDeadlineExpiry i) s = .next v.settle ∧ s.freed v i ∧ s.sameCore v ∧ v.freeCells = s.freeCells + x.ownCells
           ∧ s.queuedOn v .i [bridgeStatus (s.refOf i) x 0xD3#8]
           ∧ s.posted v (exchangeAlert s (.timeout .body) i x)))

/-- R142 and R162: the lease deadline expires. R160: the resend deadline expires with the batch in flight. R156, its four items: resync completes.
Each clause gives the whole next state but for the alert queue and the dropped count, which `posted` gives. -/
def Obligations.LeaseResendAndResyncDeadlinesExpire : Prop :=
  (∀ (s : State) (l : Lease), s.resetPin = false → s.lease = some l → (s.clock - l.deadline).toNat < 2 ^ 31 →
     ∃ v, exec .leaseExpiry s = .next v.settle ∧ s.leaseEnded v l .expired)
  ∧ (∀ (s : State) (b : Batch) (d : Clock), s.resetPin = false → s.batch = some b → b.resend = some d → (s.clock - d).toNat < 2 ^ 31 →
       exec .resendDeadlineExpiry s = .next
         { s with batch := some { b with resend := none }, portI := s.portI.queued [{ content := .alert }] }.settle)
  ∧ ∀ (s : State) (d : Clock), s.resetPin = false → s.resync = some d → (s.clock - d).toNat < 2 ^ 31 →
    ∃ v a n, exec .resyncCompletion s = .next v.settle
      ∧ v = { s with bankA := s.activeBank, bankB := s.activeBank, resync := none, dirty := false, alerts := a, dropped := n }
      ∧ s.posted v { cause := .commitDone, time := s.clock, generation := some s.generation }

/-! ## Replies, egress, warm reset -/

/-- R105 and R108: service of a snapshot starts, and a place whose exchange has ended queues nothing. `u` is the state without the place. -/
def Obligations.ReplyServiceQueuesRuns : Prop :=
  ∀ (s : State) (r : EntryRef) (rest : List EntryRef), s.resetPin = false → s.startList = r :: rest →
    let u := { s with startList := rest }
    (¬s.startPending r → exec .replyServiceStart s = .next u.settle)
    ∧ ∀ (x : Exchange) (n : Snapshot), s.entry r.index = { inc := r.inc, exchange := some x } → x.state = .replying →
      x.snapshot = some n → n.started = false →
      ∃ v, exec .replyServiceStart s = .next v.settle ∧ u.sameCore v ∧ u.sameAlerts v
        ∧ (n.data = [] → u.freed v r.index ∧ u.queuedOn v .i [bridgeStatus r x n.code] ∧ v.freeCells = u.freeCells + x.ownCells)
        ∧ (n.data ≠ [] → ∀ m, (s.port .i).state = .up → (s.port .i).peerSegment = some m → 1 ≤ m →
            ∃ runs : List (List Byte), runs.flatten = n.data ∧ (∀ b ∈ runs.dropLast, b.length = m)
              ∧ (∀ b ∈ runs, 1 ≤ b.length ∧ b.length ≤ m)
              ∧ v.entry r.index = { inc := r.inc, exchange := some { x with
                  snapshot := some { n with started := true }, dataWaiting := x.dataWaiting + runs.length } }
              ∧ u.sameEntriesBut v r.index ∧ u.sameLists v ∧ v.freeCells = u.freeCells
              ∧ u.queuedOn v .i (runDescriptors r 0 runs))

/-- R122 with R18 and R121: a bridge-made frame at the head is sent whole as it was recorded, for one credit. R123: a DATA frame longer than M goes
out in pieces of M bytes, each a DATA frame of its own, and stays at the head until its last. A stored frame leaves with its last piece and frees
its cells; on port I a DATA frame's lowers its entry's DATA waiting (R74), and nothing else changes while other DATA waits. R75: on a target port
DATA of an entry at the recorded incarnation goes out whatever the entry's state. R118 and R122: at peer credit 0 the head waits; on a port that is
not UP, or with nothing queued, a transmission is no event (log entry 1). -/
def Obligations.TransmissionCarriesHead : Prop :=
  (∀ (s : State) (p : Port), (s.port p).peerCredit = 0 ∨ (s.port p).state ≠ .up ∨ (s.port p).egress = [] →
    exec (.transmission p) s = .next s)
  ∧ ∀ (s : State) (p : Port) (d : Descriptor) (rest : List Descriptor) (m : Nat), s.resetPin = false → (s.port p).state = .up →
    1 ≤ (s.port p).peerCredit → (s.port p).peerSegment = some m → (s.port p).egress = d :: rest → d.warmMark = false →
    let sent := fun (f : Frame) (queue : List Descriptor) => s.setPort p { s.port p with
      egress := queue, peerCredit := (s.port p).peerCredit - 1, wire := (s.port p).wire ++ [f.encode] }
    let recorded := ∃ r x, d.entry = some r ∧ s.entry r.index = { inc := r.inc, exchange := some x }
    (∀ f, d.content = .made f → p = .i ∨ d.entry = none ∨ recorded → exec (.transmission p) s = .next (sent f rest).settle)
    ∧ (∀ f n, d.content = .stored f n → d.isRequest = false → d.isData = false → p = .i ∨ d.entry = none ∨ recorded →
        exec (.transmission p) s = .next { sent f rest with freeCells := s.freeCells + n }.settle)
    ∧ ∀ a tag off payload n, d.content = .stored (dataFrame a tag off payload) n →
      let piece := dataFrame a tag (off + d.progress) ((payload.drop d.progress).take m)
      (d.progress + m < payload.length → (p = .i → ∀ r, d.entry = some r → ∃ x, s.exchangeAt r = some x ∧ x.closed = false) →
        (p ≠ .i → d.entry = none ∨ recorded) →
        exec (.transmission p) s = .next (sent piece ({ d with progress := d.progress + m } :: rest)).settle)
      ∧ (payload.length ≤ d.progress + m →
        (p ≠ .i → d.entry = none ∨ recorded → exec (.transmission p) s = .next { sent piece rest with freeCells := s.freeCells + n }.settle)
        ∧ (p = .i → ∀ r x, d.entry = some r → s.entry r.index = { inc := r.inc, exchange := some x } → x.closed = false →
            (2 ≤ x.dataWaiting ∨ x.parked = none ∧ x.snapshot = none ∧ x.answer = none) →
            exec (.transmission p) s = .next { (sent piece rest).setExchange r.index { x with dataWaiting := x.dataWaiting - 1 } with
              freeCells := s.freeCells + n }.settle))

/-- R159 and R160: the ALERT frame carries the owner, the sequence, the carried dropped count the first time and 0 from then on, and the batch's
records; with its transmission the resend deadline is 1000 ms ahead. The layout of a record is 13.3's. -/
def Obligations.AlertFrameStartsResendDeadline : Prop :=
  (∀ (s : State) (d : Descriptor) (rest : List Descriptor) (b : Batch) (l : Lease), s.resetPin = false → (s.port .i).state = .up →
     1 ≤ (s.port .i).peerCredit → (s.port .i).egress = d :: rest → d.content = .alert → d.warmMark = false →
     s.batch = some b → s.lease = some l → b.size ≤ s.alerts.length →
     exec (.transmission .i) s = .next { s with
       batch := some { b with resend := some (s.clock + 1000#32), sentOnce := true },
       portI := { s.portI with
         egress := rest, peerCredit := s.portI.peerCredit - 1,
         wire := s.portI.wire ++ [[0x09#8, BitVec.ofNat 8 (l.owner.val * 16), 0#8, 0#8] ++ toBE 2 b.sequence.toNat
           ++ toBE 2 (if b.sentOnce then 0 else b.carried) ++ [BitVec.ofNat 8 b.size, 0#8, 0#8, 0#8]
           ++ (s.alerts.take b.size).flatMap Alert.encode] } }.settle)
  ∧ ∀ a : Alert, let w := a.encode
    w.length = 32 ∧ fieldAt w 4 4 = a.time.toNat
    ∧ (byteAt w 2).toNat = (if a.entry.isSome then 1 else 0) + (if a.initiator.isSome then 2 else 0) + (if a.tag.isSome then 4 else 0)
        + (if a.view.isSome then 8 else 0) + (if a.link.isSome then 16 else 0) + (if a.frameKind.isSome then 32 else 0)
        + (if a.request.isSome then 64 else 0) + (if a.generation.isSome then 128 else 0)
    ∧ (match a.cause with
      | .holdArrival => byteAt w 0 = 0x01#8 ∧ byteAt w 1 = 0#8
      | .holdExpired => byteAt w 0 = 0x02#8 ∧ byteAt w 1 = 0#8
      | .denial c => byteAt w 0 = 0x03#8 ∧ byteAt w 1 = c
      | .timeout d => byteAt w 0 = 0x04#8 ∧ (d, byteAt w 1) ∈ [(.notSent, 0x01#8), (.sent, 0x02#8), (.body, 0x03#8)]
      | .phaseViolation d => byteAt w 0 = 0x05#8 ∧ (d, byteAt w 1) ∈
          [(.form, 0x01#8), (.direction, 0x02#8), (.offset, 0x03#8), (.overWindow, 0x04#8), (.overLength, 0x05#8)]
      | .staleFrame d => byteAt w 0 = 0x06#8 ∧ (d, byteAt w 1) ∈
          [(.tagRange, 0x01#8), (.initiatorId, 0x02#8), (.entryFree, 0x03#8), (.incarnation, 0x04#8), (.notData, 0x05#8),
           (.otherLink, 0x06#8), (.notSent, 0x07#8), (.unknownKind, 0x08#8), (.shortFrame, 0x09#8), (.held, 0x0A#8), (.noExchange, 0x0B#8),
           (.afterStatus, 0x0C#8), (.wrongLink, 0x0D#8), (.noAbort, 0x0E#8), (.form, 0x0F#8), (.oversize, 0x10#8)]
      | .linkChange d => byteAt w 0 = 0x07#8 ∧ (d, byteAt w 1) ∈
          [(.up, 0x01#8), (.signalLoss, 0x02#8), (.peerRestart, 0x03#8), (.creditOverrun, 0x04#8), (.sameRole, 0x05#8), (.badInit, 0x06#8),
           (.noInit, 0x07#8)]
      | .creditOverrun d => byteAt w 0 = 0x08#8 ∧ (d, byteAt w 1) ∈ [(.noCredit, 0x01#8), (.peerCredit, 0x02#8)]
      | .commitDone => byteAt w 0 = 0x09#8 ∧ byteAt w 1 = 0#8
      | .leaseEnded r => byteAt w 0 = 0x0A#8 ∧ (r, byteAt w 1) ∈
          [(.expired, 0x01#8), (.released, 0x02#8), (.revoked, 0x03#8), (.linkLost, 0x04#8)])
    ∧ (byteAt w 8).toNat = (a.entry.map fun r => r.index.val).getD 0 ∧ (byteAt w 9).toNat = (a.entry.map fun r => r.inc.val).getD 0
    ∧ (byteAt w 10).toNat = (a.initiator.map fun n => n.val).getD 0
    ∧ (a.link.getD .i, byteAt w 11) ∈ [(Port.i, 0x00#8), (Port.t0, 0x01#8), (Port.t1, 0x02#8)]
    ∧ fieldAt w 12 2 = (a.tag.map BitVec.toNat).getD 0 ∧ (byteAt w 14).toNat = (a.view.map fun v => v.val).getD 0
    ∧ byteAt w 15 = a.frameKind.getD 0#8 ∧ byteAt w 16 = (a.request.map AlertRequest.opcode).getD 0#8
    ∧ fieldAt w 18 5 = (a.request.map fun q => q.block.toNat).getD 0
    ∧ (∀ q, a.request = some q → q.count < 2 ^ 16 → fieldAt w 24 2 = q.count) ∧ (a.request = none → fieldAt w 24 2 = 0)
    ∧ fieldAt w 28 4 = (a.generation.map BitVec.toNat).getD 0
    ∧ ∀ n ∈ [3, 17, 23, 26, 27], byteAt w n = 0#8

/-- R13: transmission of an entry's REQUEST sets command sent and frees the stored request's cells. -/
def Obligations.RequestTransmissionSetsSent : Prop :=
  ∀ (s : State) (t : Target) (d : Descriptor) (rest : List Descriptor) (f : Frame) (n : Nat) (r : EntryRef) (x : Exchange) (g : Routing),
    let p := targetPort t
    s.resetPin = false → (s.port p).state = .up → 1 ≤ (s.port p).peerCredit → (s.port p).egress = d :: rest → d.content = .stored f n →
    d.isRequest = true → d.warmMark = false → d.entry = some r → s.entry r.index = { inc := r.inc, exchange := some x } →
    x.routing = some g → x.storedRequest = some .inQueue →
    ∃ v, exec (.transmission p) s = .next v.settle
      ∧ v.entry r.index = { inc := r.inc, exchange := some { x with
          storedRequest := none, routing := some { g with commandSent := true } } }
      ∧ s.sameEntriesBut v r.index ∧ s.sameLists v ∧ s.sameCore v ∧ s.sameAlerts v ∧ v.freeCells = s.freeCells + n
      ∧ v.port p = { s.port p with
          egress := rest, peerCredit := (s.port p).peerCredit - 1, wire := (s.port p).wire ++ [f.encode] }
      ∧ s.samePortsBut v p

/-- R74, R106, R107 and R140: a DATA descriptor of an open exchange leaves port I for good. A run raises bytes moved. While other DATA waits nothing
else follows; with the last, a parked STATUS (R69), the closing STATUS of a snapshot or that of a management answer joins the queue in the same
event and the entry is freed. -/
def Obligations.LastDataQueuesClosingFrame : Prop :=
  ∀ (s : State) (d : Descriptor) (rest : List Descriptor) (r : EntryRef) (x y : Exchange) (f : Frame) (m : Nat),
    s.resetPin = false → (s.port .i).state = .up → 1 ≤ (s.port .i).peerCredit → (s.port .i).peerSegment = some m →
    (s.port .i).egress = d :: rest → d.warmMark = false → d.entry = some r → s.entry r.index = { inc := r.inc, exchange := some x } →
    x.closed = false →
    ((∃ off payload, d.content = .run off payload ∧ (x.snapshot ≠ none ∨ x.answer ≠ none) ∧ x.moved + payload.length ≤ x.moveBound
        ∧ f = dataFrame x.initiator x.tag off payload
        ∧ y = { x with moved := x.moved + payload.length, dataWaiting := x.dataWaiting - 1 })
      ∨ ∃ a tag off payload n, d.content = .stored (dataFrame a tag off payload) n ∧ payload.length ≤ d.progress + m
        ∧ f = dataFrame a tag (off + d.progress) (payload.drop d.progress) ∧ y = { x with dataWaiting := x.dataWaiting - 1 }) →
    let left := fun closing : List Descriptor => { s.portI with
      egress := rest ++ closing, peerCredit := s.portI.peerCredit - 1, wire := s.portI.wire ++ [f.encode] }
    ∃ v, exec (.transmission .i) s = .next v.settle ∧ s.sameCore v ∧ s.sameAlerts v ∧ s.samePortsBut v .i
      ∧ (2 ≤ x.dataWaiting → v.entry r.index = { inc := r.inc, exchange := some y } ∧ s.sameEntriesBut v r.index ∧ s.sameLists v
          ∧ v.portI = left [] ∧ v.freeCells = s.freeCells + d.cells)
      ∧ (x.dataWaiting = 1 →
        (∀ k, x.parked = some k → s.freed v r.index ∧ v.portI = left [targetStatus r y k]
            ∧ v.freeCells + k.cells = s.freeCells + d.cells + x.ownCells)
        ∧ (∀ code, x.parked = none →
            ((∃ n, x.snapshot = some n ∧ code = n.code) ∨ x.snapshot = none ∧ ∃ a, x.answer = some a ∧ code = a.code) →
            s.freed v r.index ∧ v.portI = left [bridgeStatus r y code] ∧ v.freeCells = s.freeCells + d.cells + x.ownCells))

/-- R75: a head whose entry is FREE or holds another incarnation is discarded on a target link. R74: so is a DATA head on port I, and one whose
exchange has closed; the latter lowers DATA waiting, and a parked STATUS follows at 0. R122 and R125: a discard takes no credit, and at a peer
credit of 0 the head waits and its cells stay stored. On a port that is not UP, or with nothing queued, a discard is no event (log entry 1). -/
def Obligations.StaleHeadIsDiscarded : Prop :=
  (∀ (s : State) (p : Port), (s.port p).peerCredit = 0 ∨ (s.port p).state ≠ .up ∨ (s.port p).egress = [] →
    exec (.headDiscard p) s = .next s)
  ∧ ∀ (s : State) (p : Port) (d : Descriptor) (rest : List Descriptor) (r : EntryRef), s.resetPin = false → (s.port p).state = .up →
    1 ≤ (s.port p).peerCredit → (s.port p).egress = d :: rest → d.entry = some r →
    let u := { s.setPort p { s.port p with egress := rest } with freeCells := s.freeCells + d.cells }
    ((p = .i → d.isData = true) → (s.entry r.index).exchange = none ∨ (s.entry r.index).inc ≠ r.inc →
      exec (.headDiscard p) s = .next u.settle)
    ∧ ∀ x, p = .i → d.isData = true → s.entry r.index = { inc := r.inc, exchange := some x } → x.closed = true →
      let y := { x with dataWaiting := x.dataWaiting - 1 }
      (x.parked = none ∨ 2 ≤ x.dataWaiting → exec (.headDiscard p) s = .next (u.setExchange r.index y).settle)
      ∧ (∀ k, x.parked = some k → x.dataWaiting = 1 →
          ∃ v, exec (.headDiscard p) s = .next v.settle ∧ u.freed v r.index ∧ u.sameCore v ∧ u.sameAlerts v
            ∧ u.queuedOn v .i [targetStatus r y k] ∧ v.freeCells + k.cells = u.freeCells + x.ownCells)

/-- R147 and R148: transmission of the STATUS that the warm-reset-pending record names. -/
def Obligations.WarmResetTakesEffect : Prop :=
  ∀ (s : State) (d : Descriptor) (rest : List Descriptor) (f : Frame), s.resetPin = false → (s.port .i).state = .up →
    1 ≤ (s.port .i).peerCredit → (s.port .i).egress = d :: rest → d.content = .made f → d.warmMark = true →
    let queue := fun p : Port => if p = .i then rest else (s.port p).egress
    let spared := fun p : Port => ((queue p).filter s.spares).map fun a : Descriptor => { a with entry := none }
    let purged := fun p : Port => (queue p).filter fun a : Descriptor => !s.spares a
    let closings := allEntries.filterMap fun i =>
      match (s.entry i).exchange with
      | some x => if x.state = .aborting ∧ x.closed = true then none else some (bridgeStatus (s.refOf i) x 0xD6#8)
      | none => none
    let aborts := fun t : Target => allEntries.filterMap fun i =>
      match (s.entry i).exchange with
      | some x =>
        if x.state ≠ .aborting ∧ x.parked = none ∧ (x.routing.any fun g => g.link == t && g.commandSent) = true then
          some { bridgeAbort (s.refOf i) with entry := none }
        else none
      | none => none
    ∃ v : State, exec (.transmission .i) s = .next v.settle
      ∧ (∀ i, v.entry i = { s.entry i with exchange := none })
      ∧ v.portI = { s.portI with
          egress := spared .i ++ closings, peerCredit := s.portI.peerCredit - 1, wire := s.portI.wire ++ [f.encode] }
      ∧ (∀ t, let r := s.port (targetPort t)
          v.port (targetPort t) = { r with
            egress := spared (targetPort t) ++ (if r.state = .up then aborts t else []),
            state := if r.state = .failed then .training else r.state,
            initFailures := if r.state = .failed then 0 else r.initFailures })
      ∧ v.freeCells = s.freeCells + (allPorts.map fun p => queueCells (purged p)).sum + (allEntries.map fun i => (s.entry i).cells).sum
      ∧ v.holdQueue = [] ∧ v.startList = [] ∧ v.lease = none ∧ v.warmPending = false
      ∧ v.alerts = [] ∧ v.dropped = 0 ∧ v.batch = none ∧ v.sequence = 0#16
      ∧ v.resync = some (s.clock + 2#32) ∧ v.bankA = s.bankA ∧ v.bankB = s.bankB ∧ v.active = s.active
      ∧ v.generation = s.generation ∧ v.dirty = s.dirty ∧ v.clock = s.clock ∧ v.rotation = s.rotation

/-! ## Management -/

/-- R139: the three checks in their order, and what passes them is carried out; a REQUEST without a body is performed at its verdict, which is also
the command of the operation it names (log entry 3). R89, R96, R145, R150: the checks of the operations themselves, in their order. That READ_ENTRY
judges the index before the bank is the model's choice (log entry 31). -/
def Obligations.OperationChecksInOrder : Prop :=
  (∀ (s u : State) (f : List Byte) (i : EntryIndex), s.atVerdict f u i →
    exec .verdict s = State.concluded f i (operationResult (u.opened f i) i (managementExchange f))
    ∧ ∀ code op c, (code, op, c) ∈ mgmtCommands → (readRequest f).params.head? = some code → exec (c .verdict) s = exec .verdict s)
  ∧ (∀ (s : State) (i : EntryIndex) (x : Exchange) (params : List Byte),
    let b1 := (byteAt params 1).toNat
    let b2 := (byteAt params 2).toNat
    let does := carryOut s i x params
    let refused := fun code : Byte => ({ state := s, answer := [], code := code } : OpResult)
    (tableOf (byteAt params 1) = none → does .readEntry = refused 0xE2#8 ∧ does .writeEntry = refused 0xE2#8)
    ∧ (∀ t, tableOf (byteAt params 1) = some t →
      (t.size ≤ b2 → does .readEntry = refused 0xE2#8 ∧ does .writeEntry = refused 0xE2#8)
      ∧ (b2 < t.size →
        (s.resync ≠ none → does .writeEntry = refused 0xE3#8 ∧ (byteAt params 3 = 0x01#8 → does .readEntry = refused 0xE3#8))
        ∧ (s.resync = none → s.stagingBank.withRecord t b2 (x.bodyFrames.flatMap dataPayload) = none → does .writeEntry = refused 0xE8#8)))
    ∧ (64 ≤ b1 → does .readExchange = refused 0xE2#8)
    ∧ (64 ≤ b1 ∨ 3 < b2 → does .holdDecide = refused 0xE2#8 ∧ does .endExchange = refused 0xE2#8)
    ∧ ∀ h : b1 < 64, b2 ≤ 3 → let j : EntryIndex := ⟨b1, h⟩; let e := s.entry j
      (j = i → does .endExchange = refused 0xE2#8)
      ∧ (e.exchange = none → does .holdDecide = refused 0xE5#8 ∧ (j ≠ i → does .endExchange = refused 0xE5#8))
      ∧ ∀ y, e.exchange = some y →
        (y.state ≠ .held ∨ e.inc.val ≠ b2 → does .holdDecide = refused 0xE5#8)
        ∧ (j ≠ i → e.inc.val ≠ b2 ∨ y.closed = true ∨ y.parked ≠ none → does .endExchange = refused 0xE5#8))
  ∧ ∀ (s : State) (i : EntryIndex) (x : Exchange),
    (x.namedOp = none → operationResult s i x = { state := s, answer := [], code := 0xE8#8 })
    ∧ ∀ op, x.namedOp = some op →
      (s.bootstrap = false → s.hasMgmtRight x.initiator = false →
        operationResult s i x = { state := s, answer := [], code := 0xE7#8 })
      ∧ ((s.bootstrap = true ∨ s.hasMgmtRight x.initiator = true) →
        (op.leaseClass = true → (∀ l, s.lease = some l → l.owner ≠ x.initiator) →
          operationResult s i x = { state := s, answer := [], code := 0xE0#8 })
        ∧ ((op.leaseClass = false ∨ ∃ l, s.lease = some l ∧ l.owner = x.initiator) →
          operationResult s i x = carryOut s i x (requestParams x.requestBytes) op))

/-- R140: the answer is cut to what the transfer length and the free cells hold; none of it written, the closing STATUS follows at once and the
entry is freed; else the runs are queued and the entry keeps the code. R154: a lease to be revoked ends after that STATUS. -/
def Obligations.PerformanceConcludes : Prop :=
  ∀ (i : EntryIndex) (x : Exchange) (r : OpResult), (r.state.port .i).state = .up →
    let amount := min r.answer.length (min (if x.direction = .dirIn then x.length else 0) (64 * r.state.freeCells))
    let w := r.state
    let v := State.conclude i x r
    (amount = 0 →
      (r.after ≠ .revokeLease →
        w.freed v i ∧ w.sameAlerts v ∧ v.freeCells = w.freeCells + x.ownCells
          ∧ (r.after = .nothing → w.sameCore v ∧ w.queuedOn v .i [bridgeStatus (w.refOf i) x r.code])
          ∧ (r.after = .markWarmReset → v.warmPending = true
              ∧ w.queuedOn v .i [{ bridgeStatus (w.refOf i) x r.code with warmMark := !w.warmPending }]))
      ∧ (r.after = .revokeLease → ∃ c, w.freed c i ∧ w.sameCore c ∧ w.sameAlerts c ∧ c.freeCells = w.freeCells + x.ownCells
          ∧ w.queuedOn c .i [bridgeStatus (w.refOf i) x r.code]
          ∧ (w.lease = none → v = c) ∧ ∀ l, w.lease = some l → c.leaseEnded v l .revoked))
    ∧ (1 ≤ amount → x.parked = none → x.snapshot = none → ∀ m, (w.port .i).peerSegment = some m → 1 ≤ m →
      ∃ runs : List (List Byte), runs.flatten = r.answer.take amount ∧ (∀ b ∈ runs.dropLast, b.length = m)
        ∧ (∀ b ∈ runs, 1 ≤ b.length ∧ b.length ≤ m)
        ∧ v.entry i = { w.entry i with exchange := some { x with
            storedRequest := none, bodyFrames := [], answer := some { code := r.code, length := amount },
            dataWaiting := x.dataWaiting + runs.length } }
        ∧ w.sameEntriesBut v i ∧ w.sameLists v ∧ w.sameCore v ∧ w.sameAlerts v
        ∧ v.freeCells + (amount + 63) / 64 = w.freeCells + x.ownCells
        ∧ w.queuedOn v .i (runDescriptors (w.refOf i) 0 runs))

/-- R103, R145, R146: the operations that read. That HOLD_LIST takes the expiries of the holds whose deadline the clock has reached in its own
event, ahead of its answer and behind the verdict's checks and its own allocation, is the model's choice (log entry 13). The depth of a queue may be a
free value (log entry 14): this holds of every value. That LINK_STATE's free cells do not count those of its own REQUEST, which the same event
releases, is the model's choice (log entry 32). -/
def Obligations.ReadingOperationsAnswer : Prop :=
  ∀ (s u : State) (f : List Byte) (i : EntryIndex), s.atVerdict f u i →
    let q := readRequest f
    let v := u.opened f i
    v.mayManage q.initiator = true →
    (q.params = [0x01#8, 0#8, 0#8, 0#8] →
      exec (.identify .verdict) s = State.concluded f i {
        state := v, code := 0x00#8,
        answer := [0x04#8, 0x12#8, 0x01#8, if v.bootstrap then 0x01#8 else 0x00#8, 16#8, 128#8, 0x01#8, 0x00#8, 32#8, 0#8, 0#8, 0#8]
          ++ toBE 4 v.generation.toNat })
    ∧ (∀ b1 b2 b3 t, q.params = [0x05#8, b1, b2, b3] → tableOf b1 = some t → b2.toNat < t.size →
        (b3 = 0x00#8 → exec (.readEntry .verdict) s = State.concluded f i {
          state := v, answer := v.activeBank.recordBytes t b2.toNat, code := 0x00#8 })
        ∧ (b3 = 0x01#8 → exec (.readEntry .verdict) s = State.concluded f i (if v.resync = none then
            { state := v, answer := v.stagingBank.recordBytes t b2.toNat, code := 0x00#8 }
          else { state := v, answer := [], code := 0xE3#8 })))
    ∧ (∀ b1 (h : b1.toNat < 64), q.params = [0x09#8, b1, 0#8, 0#8] →
        exec (.readExchange .verdict) s = State.concluded f i {
          state := v, answer := entryPicture (v.entry ⟨b1.toNat, h⟩), code := 0x00#8 })
    ∧ (q.params = [0x0A#8, 0#8, 0#8, 0#8] → (v.holdQueue.map fun h => h.entry.index).Nodup →
        ∃ w, v.holdsExpired w ∧ ((∀ h ∈ v.holdQueue, v.holdOver h = false) → w = v)
          ∧ exec (.holdList .verdict) s = State.concluded f i {
              state := w, code := 0x00#8,
              answer := [BitVec.ofNat 8 w.holdQueue.length, 0#8, 0#8, 0#8] ++ w.holdQueue.flatMap (placePicture w) })
    ∧ (q.params = [0x0E#8, 0#8, 0#8, 0#8] →
        exec (.linkState .verdict) s = State.concluded f i {
          state := { v with freeCount := v.freeCount + 1 }, code := 0x00#8,
          answer := portPicture v .i 0 ++ portPicture v .t0 1 ++ portPicture v .t1 2 ++ toBE 2 v.freeCells ++ [0#8, 0#8] })

/-- 13.2: the entry picture, a place of HOLD_LIST, a port of LINK_STATE and the record of READ_ENTRY, byte by byte; a record whose validity bit is
clear is all zero (R24). A field wider than its bytes is not spoken of. -/
def Obligations.PicturesFollowLayouts : Prop :=
  (∀ e : Entry, let p := entryPicture e
    p.length = 40 ∧ (byteAt p 1).toNat = e.inc.val
    ∧ (e.exchange = none → ∀ n, n ≠ 1 → byteAt p n = 0#8)
    ∧ ∀ x, e.exchange = some x →
      (x.state, byteAt p 0) ∈ [(.held, 0x01#8), (.issued, 0x02#8), (.moving, 0x03#8), (.replying, 0x04#8), (.mgmtBody, 0x05#8),
        (.mgmtAnswer, 0x06#8), (.aborting, 0x07#8)]
      ∧ (x.kind, byteAt p 2) ∈ [(.data, 0x01#8), (.queryReply, 0x02#8), (.mgmt, 0x03#8)]
      ∧ (byteAt p 3).toNat = (if x.closed then 1 else 0) + (if x.routing.any Routing.commandSent then 2 else 0)
          + (if x.parked.isSome then 4 else 0) + (if x.routing.isSome then 8 else 0) + (if x.proceeded.isSome then 16 else 0)
      ∧ (byteAt p 4).toNat = x.initiator.val
      ∧ (x.origin, byteAt p 5) ∈ [(none, 0x00#8), (some .initiator, 0x01#8), (some .timeout, 0x02#8), (some .phase, 0x03#8),
          (some .management, 0x04#8)]
      ∧ fieldAt p 6 2 = x.tag.toNat ∧ byteAt p 8 = x.opcode
      ∧ (x.direction, byteAt p 9) ∈ [(.noData, 0x00#8), (.dirIn, 0x01#8), (.dirOut, 0x02#8)]
      ∧ (byteAt p 10).toNat = (x.view.map fun v => v.val).getD 0xFF
      ∧ (x.routing.map Routing.link, byteAt p 11) ∈ [(none, 0xFF#8), (some .t0, 0x00#8), (some .t1, 0x01#8)]
      ∧ byteAt p 12 = (x.routing.map Routing.unit).getD 0#8
      ∧ fieldAt p 28 5 = (x.routing.map fun g => g.block.toNat).getD 0
      ∧ (∀ r, x.replyRecord = some r → (byteAt p 13).toNat = r.val) ∧ (x.replyRecord = none → byteAt p 13 = x.operation.getD 0#8)
      ∧ (x.deadline.map Deadline.kind, byteAt p 14) ∈ [(none, 0x00#8), (some .exchange, 0x01#8), (some .hold, 0x02#8),
          (some .grace, 0x03#8), (some .body, 0x04#8)]
      ∧ fieldAt p 36 4 = (x.deadline.map fun d => d.due.toNat).getD 0
      ∧ (x.length < 2 ^ 24 → fieldAt p 16 3 = x.length) ∧ (x.moved < 2 ^ 24 → fieldAt p 20 3 = x.moved)
      ∧ (x.proceeded.getD 0 < 2 ^ 24 → fieldAt p 24 3 = x.proceeded.getD 0)
      ∧ ∀ n ∈ [15, 19, 23, 27, 33, 34, 35], byteAt p n = 0#8)
  ∧ (∀ (s : State) (h : HoldPlace) (x : Exchange), (s.entry h.entry.index).exchange = some x → let p := placePicture s h
    p.length = 24 ∧ (byteAt p 0).toNat = h.entry.index.val ∧ (byteAt p 1).toNat = h.entry.inc.val ∧ (byteAt p 2).toNat = x.initiator.val
      ∧ fieldAt p 3 2 = x.tag.toNat ∧ byteAt p 8 = x.opcode
      ∧ (x.direction, byteAt p 9) ∈ [(.noData, 0x00#8), (.dirIn, 0x01#8), (.dirOut, 0x02#8)]
      ∧ (∀ k, x.view = some k → (byteAt p 5).toNat = k.val)
      ∧ (∀ g, x.routing = some g → (g.link, byteAt p 6) ∈ [(.t0, 0x00#8), (.t1, 0x01#8)] ∧ byteAt p 7 = g.unit
          ∧ fieldAt p 15 5 = g.block.toNat)
      ∧ (x.length < 2 ^ 24 → fieldAt p 10 3 = x.length)
      ∧ (∀ f, x.storedRequest = some (.inCells f) → fieldAt p 13 2 = (readRequest f).count)
      ∧ (h.timeoutMs < 2 ^ 16 → fieldAt p 20 2 = h.timeoutMs)
      ∧ ∀ d, x.deadline = some d → (d.due - s.clock).toNat < 2 ^ 16 → fieldAt p 22 2 = (d.due - s.clock).toNat)
  ∧ (∀ (b : Bank) (n : InitiatorId), let p := b.recordBytes .initiators n.val
    (b.initiators.get n = none → p = List.replicate 4 0#8)
    ∧ ∀ r, b.initiators.get n = some r →
      p.length = 4 ∧ (byteAt p 0).toNat = 1 + (if r.dataRight then 2 else 0) + (if r.mgmtRight then 4 else 0)
      ∧ (r.quota < 256 → (byteAt p 1).toNat = r.quota) ∧ (r.leaseTime < 2 ^ 16 → fieldAt p 2 2 = r.leaseTime))
  ∧ (∀ (b : Bank) (n : ViewIndex), let p := b.recordBytes .views n.val
    (b.views.get n = none → p = List.replicate 24 0#8)
    ∧ ∀ v, b.views.get n = some v →
      p.length = 24 ∧ (byteAt p 0).toNat = 1 + (if v.readRight then 2 else 0) + (if v.writeRight then 4 else 0)
        + (if v.controlRight then 8 else 0) + (if v.alertOnDeny then 16 else 0)
      ∧ (v.holdMode, byteAt p 1) ∈ [(HoldMode.noHold, 0x00#8), (.holdWrites, 0x01#8), (.holdAll, 0x02#8)]
      ∧ fieldAt p 2 2 = v.mask.toNat ∧ byteAt p 4 = v.virtualUnit ∧ byteAt p 5 = v.linkCode ∧ byteAt p 6 = v.unit
      ∧ byteAt p 7 = v.blockSizeCode ∧ fieldAt p 8 5 = v.base.toNat ∧ (v.extent < 2 ^ 48 → fieldAt p 13 6 = v.extent) ∧ byteAt p 19 = 0#8
      ∧ (v.holdWait < 2 ^ 16 → fieldAt p 20 2 = v.holdWait) ∧ (v.timeout < 2 ^ 16 → fieldAt p 22 2 = v.timeout))
  ∧ (∀ (b : Bank) (n : Fin 256), let p := b.recordBytes .classes n.val
    p.length = 4 ∧ (b.classes.get n, byteAt p 0) ∈ [(.undefined, 0x00#8), (.readBlocks, 0x01#8), (.writeBlocks, 0x02#8), (.control, 0x03#8),
      (.query, 0x04#8), (.forbidden, 0x05#8)] ∧ byteAt p 1 = 0#8 ∧ byteAt p 2 = 0#8 ∧ byteAt p 3 = 0#8)
  ∧ (∀ (b : Bank) (n : ReplyIndex), let p := b.recordBytes .replies n.val
    (b.replies.get n = none → p = List.replicate 12 0#8)
    ∧ ∀ r, b.replies.get n = some r →
      p.length = 12 + r.data.length ∧ byteAt p 0 = 0x01#8 ∧ byteAt p 1 = r.linkCode ∧ byteAt p 2 = r.unit ∧ byteAt p 3 = r.opcode
      ∧ (r.selector = none → byteAt p 4 = 0x01#8 ∧ byteAt p 5 = 0#8) ∧ (∀ c, r.selector = some c → byteAt p 4 = 0x00#8 ∧ byteAt p 5 = c)
      ∧ byteAt p 6 = r.code ∧ byteAt p 7 = 0#8 ∧ (r.data.length < 2 ^ 16 → fieldAt p 8 2 = r.data.length) ∧ byteAt p 10 = 0#8
      ∧ byteAt p 11 = 0#8 ∧ p.drop 12 = r.data)
  ∧ ∀ (s : State) (q : Port) (n : Nat), let r := s.port q; let p := portPicture s q n
    p.length = 8
      ∧ (r.state, byteAt p 0) ∈ [(.down, 0x00#8), (.training, 0x01#8), (.initWait, 0x02#8), (.up, 0x03#8), (.failed, 0x04#8)]
      ∧ (r.initFailures < 256 → (byteAt p 1).toNat = r.initFailures)
      ∧ (r.peerSegment = none → byteAt p 2 = 0#8) ∧ (∀ m, m < 256 → r.peerSegment = some (64 * m) → (byteAt p 2).toNat = m)
      ∧ (r.announced + r.owed < 256 → (byteAt p 3).toNat = r.announced + r.owed)
      ∧ (r.peerCredit < 2 ^ 16 → fieldAt p 4 2 = r.peerCredit) ∧ (r.egress.length < 2 ^ 16 → fieldAt p 6 2 = r.egress.length)

/-- R143 and R144: CLAIM, RENEW and RELEASE_LEASE. -/
def Obligations.LeaseOperationsComplete : Prop :=
  ∀ (s u : State) (f : List Byte) (i : EntryIndex), s.atVerdict f u i →
    let q := readRequest f
    let v := u.opened f i
    let ms := if v.bootstrap then 30000 else ((v.initiatorRecord q.initiator).map InitiatorRecord.leaseTime).getD 0 * 1000
    let l : Lease := { owner := q.initiator, deadline := v.clock + BitVec.ofNat 32 ms }
    v.mayManage q.initiator = true →
    (q.params = [0x02#8, 0#8, 0#8, 0#8] →
      ((∀ l0, v.lease = some l0 → l0.owner = q.initiator) →
        exec (.claim .verdict) s = State.concluded f i {
          state := { v with lease := some l }, code := 0x00#8,
          answer := [BitVec.ofNat 8 q.initiator.val, if v.dirty then 0x01#8 else 0x00#8] ++ toBE 2 (v.sequence + 1#16).toNat
            ++ toBE 4 l.deadline.toNat ++ toBE 4 v.generation.toNat })
      ∧ (∀ l0, v.lease = some l0 → l0.owner ≠ q.initiator →
          exec (.claim .verdict) s = State.concluded f i { state := v, answer := [BitVec.ofNat 8 l0.owner.val], code := 0xE1#8 }))
    ∧ (v.ownsLease q.initiator = true →
      (q.params = [0x03#8, 0#8, 0#8, 0#8] →
        exec (.renew .verdict) s = State.concluded f i {
          state := { v with lease := some l }, answer := toBE 4 l.deadline.toNat, code := 0x00#8 })
      ∧ (q.params = [0x04#8, 0#8, 0#8, 0#8] → ∀ l0, v.lease = some l0 →
          ∃ w, exec (.releaseLease .verdict) s = State.concluded f i { state := w, answer := [], code := 0x00#8 }
            ∧ v.leaseEnded w l0 .released))

/-- R150 to R155: WRITE_ENTRY, performed by its last body frame, CLEAR_STAGING and COMMIT. -/
def Obligations.StagingOperationsComplete : Prop :=
  (∀ (s u : State) (f request : List Byte) (i : EntryIndex) (x : Exchange) (b1 b2 : Byte) (t : Table), s.taking .i 0x03#8 f u →
    u.matchInitiator f = some (i, x) → x.state = .mgmtBody → x.parked = none → x.direction = .dirOut →
    x.storedRequest = some (.inCells request) → requestParams request = [0x06#8, b1, b2, 0#8] → dataFormOk f = true →
    dataOffset f = x.moved → x.moved + dataLength f = x.length → x.length ≤ x.proceeded.getD 0 → tableOf b1 = some t → b2.toNat < t.size →
    let y := { x with state := .mgmtAnswer, moved := x.length, bodyFrames := x.bodyFrames ++ [f], deadline := none }
    let v := u.setExchange i y
    let record := (x.bodyFrames ++ [f]).flatMap dataPayload
    v.mayManage x.initiator = true → v.ownsLease x.initiator = true →
    (v.resync ≠ none →
      exec (.writeEntry .lastBodyFrame) s = .next (State.conclude i y { state := v, answer := [], code := 0xE3#8 }).settle)
    ∧ (v.resync = none → v.stagingBank.withRecord t b2.toNat record = none →
      exec (.writeEntry .lastBodyFrame) s = .next (State.conclude i y { state := v, answer := [], code := 0xE8#8 }).settle)
    ∧ (v.resync = none → ∀ b, v.stagingBank.withRecord t b2.toNat record = some b →
      exec (.writeEntry .lastBodyFrame) s
          = .next (State.conclude i y { state := { v.setStaging b with dirty := true }, answer := [], code := 0x00#8 }).settle
        ∧ (v.setStaging b).stagingBank = b ∧ (v.setStaging b).activeBank = v.activeBank))
  ∧ ∀ (s u : State) (f : List Byte) (i : EntryIndex), s.atVerdict f u i →
    let q := readRequest f
    let v := u.opened f i
    v.mayManage q.initiator = true → v.ownsLease q.initiator = true →
    (q.params = [0x07#8, 0#8, 0#8, 0#8] →
      exec (.clearStaging .verdict) s = State.concluded f i (if v.resync = none then
          { state := { v.setStaging Bank.cleared with dirty := true }, answer := [], code := 0x00#8 }
        else { state := v, answer := [], code := 0xE3#8 }))
    ∧ (q.params = [0x08#8, 0#8, 0#8, 0#8] →
      (v.resync ≠ none → exec (.commit .verdict) s = State.concluded f i { state := v, answer := [], code := 0xE3#8 })
      ∧ (v.resync = none → ∀ t n, v.stagingBank.firstFault = some (t, n) →
          exec (.commit .verdict) s = State.concluded f i { state := v, answer := [t.code, 0#8] ++ toBE 2 n, code := 0xE4#8 })
      ∧ (v.resync = none → v.stagingBank.firstFault = none →
          let w := { v with
            active := otherBank v.active, generation := v.generation + 1#32, dirty := false, resync := some (v.clock + 2#32) }
          w.activeBank = v.stagingBank ∧ w.stagingBank = v.activeBank
          ∧ exec (.commit .verdict) s = State.concluded f i (
            if w.bootstrap = true ∨ w.hasMgmtRight q.initiator = true then { state := w, answer := toBE 4 w.generation.toNat, code := 0x00#8 }
            else { state := w, answer := [], code := 0x00#8, after := .revokeLease })))

/-- R90, R96 to R99, R147, R161: HOLD_DECIDE, ALERT_ACK, END_EXCHANGE and WARM_RESET by the lease owner. That the closing STATUS which the effect
queues (D1h, D0h, D7h) stands before the answer, and that the free cells the answer may take are counted after the effect, is the model's choice
(log entry 9). -/
def Obligations.OwnerOperationsComplete : Prop :=
  ∀ (s u : State) (f : List Byte) (i : EntryIndex), s.atVerdict f u i →
    let q := readRequest f
    let v := u.opened f i
    v.mayManage q.initiator = true → v.ownsLease q.initiator = true →
    (∀ b1 b2 decision (h : b1.toNat < 64) y g request, q.params = [0x0B#8, b1, b2, decision] →
      let j : EntryIndex := ⟨b1.toNat, h⟩
      (v.entry j).exchange = some y → y.state = .held → (v.entry j).inc.val = b2.toNat → y.routing = some g →
      y.storedRequest = some (.inCells request) → (v.port .i).state = .up →
      (decision = 0x02#8 → ∃ w, exec (.holdDecide .verdict) s = State.concluded f i { state := w, answer := [0x03#8, b1, b2, 0#8], code := 0x00#8 }
        ∧ v.freed w j ∧ v.sameCore w ∧ v.sameAlerts w ∧ w.freeCells = v.freeCells + y.ownCells
        ∧ v.queuedOn w .i [bridgeStatus (v.refOf j) y 0xD1#8])
      ∧ (decision = 0x01#8 → (v.port (targetPort g.link)).state ≠ .up →
        ∃ w, exec (.holdDecide .verdict) s = State.concluded f i { state := w, answer := [0x02#8, b1, b2, 0#8], code := 0x00#8 }
          ∧ v.freed w j ∧ v.sameCore w ∧ v.sameAlerts w ∧ w.freeCells = v.freeCells + y.ownCells
          ∧ v.queuedOn w .i [bridgeStatus (v.refOf j) y 0xD0#8])
      ∧ (decision = 0x01#8 → (v.port (targetPort g.link)).state = .up → ∀ place, v.holdQueue.find? (fun k => k.entry.index = j) = some place →
        ∃ w, exec (.holdDecide .verdict) s = State.concluded f i { state := w, answer := [0x01#8, b1, b2, 0#8], code := 0x00#8 }
          ∧ w.entry j = { v.entry j with exchange := some { y with
              state := .issued, storedRequest := some .inQueue,
              deadline := some { kind := .exchange, due := v.clock + BitVec.ofNat 32 place.timeoutMs } } }
          ∧ v.sameEntriesBut w j ∧ v.placeGone w j ∧ w.startList = v.startList ∧ v.sameCore w ∧ v.sameAlerts w ∧ w.freeCells = v.freeCells
          ∧ v.queuedOn w (targetPort g.link) [{
              content := .stored (rewrittenRequest (v.refOf j) g (readRequest request)) (cellsFor request.length),
              entry := some (v.refOf j) }]))
    ∧ (∀ b1 b2, q.params = [0x0C#8, b1, b2, 0#8] →
      (∀ b, v.batch = some b → b.sequence = BitVec.ofNat 16 (b1.toNat * 256 + b2.toNat) →
        exec (.alertAck .verdict) s = State.concluded f i {
          state := { v with
            alerts := v.alerts.drop b.size, batch := none, portI := { v.portI with egress := v.portI.egress.filter fun d => !d.isAlert } },
          answer := [], code := 0x00#8 })
      ∧ ((∀ b, v.batch = some b → b.sequence ≠ BitVec.ofNat 16 (b1.toNat * 256 + b2.toNat)) →
        exec (.alertAck .verdict) s = State.concluded f i { state := v, answer := [], code := 0xE6#8 }))
    ∧ (∀ b1 b2 (h : b1.toNat < 64) y, q.params = [0x0D#8, b1, b2, 0#8] →
      let j : EntryIndex := ⟨b1.toNat, h⟩
      j ≠ i → (v.entry j).exchange = some y → (v.entry j).inc.val = b2.toNat → y.closed = false → y.parked = none → (v.port .i).state = .up →
      ∃ w, exec (.endExchange .verdict) s = State.concluded f i { state := w, answer := [y.state.code, b1, b2, 0#8], code := 0x00#8 }
        ∧ v.sameCore w ∧ v.sameAlerts w ∧ v.sameEntriesBut w j
        ∧ (y.state = .aborting → w.entry j = { v.entry j with exchange := some { y with origin := some .management, closed := true } }
            ∧ v.queuedOn w .i [bridgeStatus (v.refOf j) y 0xD7#8] ∧ v.sameLists w ∧ w.freeCells = v.freeCells)
        ∧ (y.state ≠ .aborting → v.endedWith w j y .management 0xD7#8 0))
    ∧ (q.params = [0x0F#8, 0#8, 0#8, 0#8] →
        exec (.warmReset .verdict) s = State.concluded f i { state := v, answer := [], code := 0x00#8, after := .markWarmReset })

/-! ## What every event keeps -/

/-- R116 and R159: after every event no grant is left to be made and no batch to be formed. -/
def Obligations.EventsKeepSettled : Prop :=
  ∀ (s t : State), s.settled → step s = .next t → t.settled

/-- R111, R113, R118, R126: every event keeps the link records legal and the 2048 cells. -/
def Obligations.EventsKeepLinksAndCells : Prop :=
  ∀ (s t : State), s.linksOk → s.cellsConserved → step s = .next t → t.linksOk ∧ t.cellsConserved

/-- R157 to R162: every event keeps alert delivery legal. -/
def Obligations.EventsKeepDelivery : Prop :=
  ∀ (s t : State), s.linksOk → s.deliveryOk → step s = .next t → t.linksOk ∧ t.deliveryOk

/-- R92 and R94: every event keeps the hold queue equal to the entries in HELD, and each of them as R94 says. -/
def Obligations.EventsKeepHolds : Prop :=
  ∀ (s t : State), s.holdsOk → step s = .next t → t.holdsOk

/-- R104 and R105: every event keeps the start list: each entry once, at most 64, and every snapshot whose service is yet to start. -/
def Obligations.EventsKeepStartList : Prop :=
  ∀ (s t : State), s.startOk → step s = .next t → t.startOk

/-- R9, R10, R17, R61, R80: every event keeps every exchange's books, routing and abort fields legal. -/
def Obligations.EventsKeepExchanges : Prop :=
  ∀ (s t : State), s.exchangesOk → step s = .next t → t.exchangesOk

/-- R15: at most one open entry holds a pair of initiator id and tag. -/
def Obligations.EventsKeepPairsUnique : Prop :=
  ∀ (s t : State), s.pairsOk → step s = .next t → t.pairsOk

/-- R12: an entry's incarnation changes at allocation alone, and then by one. A power-on reset sets every incarnation to 0 (R21). -/
def Obligations.IncarnationsChangeAtAllocationAlone : Prop :=
  ∀ (c : Instr) (s t : State) (i : EntryIndex), c ≠ .powerOnReset → c ≠ .resetPinAssertion → exec c s = .next t →
    (t.entry i).inc = (s.entry i).inc ∨ ((s.entry i).exchange = none ∧ (t.entry i).inc = (s.entry i).inc + 1)

/-- Every invariant above holds right after power-on reset. -/
def Obligations.ResetMeetsEveryInvariant : Prop :=
  State.reset.settled ∧ State.reset.linksOk ∧ State.reset.cellsConserved ∧ State.reset.deliveryOk ∧ State.reset.holdsOk
    ∧ State.reset.startOk ∧ State.reset.exchangesOk ∧ State.reset.pairsOk
end

