-- ==== Sys2Proof/Laws/State.lean ====
section
/-! SUPPORT. What each update of State leaves as it was, field by field, and what a port or an entry reads after it. -/

namespace Sys2Proof.Machine

/-! ## setPort -/

@[simp] theorem State.setPort_resetPin (s : State) (p : Port) (r : PortRecord) : (s.setPort p r).resetPin = s.resetPin := by cases p <;> rfl
@[simp] theorem State.setPort_clock (s : State) (p : Port) (r : PortRecord) : (s.setPort p r).clock = s.clock := by cases p <;> rfl
@[simp] theorem State.setPort_entries (s : State) (p : Port) (r : PortRecord) : (s.setPort p r).entries = s.entries := by cases p <;> rfl
@[simp] theorem State.setPort_holdQueue (s : State) (p : Port) (r : PortRecord) : (s.setPort p r).holdQueue = s.holdQueue := by cases p <;> rfl
@[simp] theorem State.setPort_startList (s : State) (p : Port) (r : PortRecord) : (s.setPort p r).startList = s.startList := by cases p <;> rfl
@[simp] theorem State.setPort_lease (s : State) (p : Port) (r : PortRecord) : (s.setPort p r).lease = s.lease := by cases p <;> rfl
@[simp] theorem State.setPort_warmPending (s : State) (p : Port) (r : PortRecord) : (s.setPort p r).warmPending = s.warmPending := by cases p <;> rfl
@[simp] theorem State.setPort_bankA (s : State) (p : Port) (r : PortRecord) : (s.setPort p r).bankA = s.bankA := by cases p <;> rfl
@[simp] theorem State.setPort_bankB (s : State) (p : Port) (r : PortRecord) : (s.setPort p r).bankB = s.bankB := by cases p <;> rfl
@[simp] theorem State.setPort_active (s : State) (p : Port) (r : PortRecord) : (s.setPort p r).active = s.active := by cases p <;> rfl
@[simp] theorem State.setPort_generation (s : State) (p : Port) (r : PortRecord) : (s.setPort p r).generation = s.generation := by cases p <;> rfl
@[simp] theorem State.setPort_dirty (s : State) (p : Port) (r : PortRecord) : (s.setPort p r).dirty = s.dirty := by cases p <;> rfl
@[simp] theorem State.setPort_resync (s : State) (p : Port) (r : PortRecord) : (s.setPort p r).resync = s.resync := by cases p <;> rfl
@[simp] theorem State.setPort_alerts (s : State) (p : Port) (r : PortRecord) : (s.setPort p r).alerts = s.alerts := by cases p <;> rfl
@[simp] theorem State.setPort_dropped (s : State) (p : Port) (r : PortRecord) : (s.setPort p r).dropped = s.dropped := by cases p <;> rfl
@[simp] theorem State.setPort_batch (s : State) (p : Port) (r : PortRecord) : (s.setPort p r).batch = s.batch := by cases p <;> rfl
@[simp] theorem State.setPort_sequence (s : State) (p : Port) (r : PortRecord) : (s.setPort p r).sequence = s.sequence := by cases p <;> rfl
@[simp] theorem State.setPort_freeCells (s : State) (p : Port) (r : PortRecord) : (s.setPort p r).freeCells = s.freeCells := by cases p <;> rfl
@[simp] theorem State.setPort_rotation (s : State) (p : Port) (r : PortRecord) : (s.setPort p r).rotation = s.rotation := by cases p <;> rfl
@[simp] theorem State.setPort_freeCount (s : State) (p : Port) (r : PortRecord) : (s.setPort p r).freeCount = s.freeCount := by cases p <;> rfl
@[simp] theorem State.setPort_pending (s : State) (p : Port) (r : PortRecord) : (s.setPort p r).pending = s.pending := by cases p <;> rfl

/-! ## setEntry -/

@[simp] theorem State.setEntry_resetPin (s : State) (i : EntryIndex) (e : Entry) : (s.setEntry i e).resetPin = s.resetPin := rfl
@[simp] theorem State.setEntry_clock (s : State) (i : EntryIndex) (e : Entry) : (s.setEntry i e).clock = s.clock := rfl
@[simp] theorem State.setEntry_portI (s : State) (i : EntryIndex) (e : Entry) : (s.setEntry i e).portI = s.portI := rfl
@[simp] theorem State.setEntry_portT0 (s : State) (i : EntryIndex) (e : Entry) : (s.setEntry i e).portT0 = s.portT0 := rfl
@[simp] theorem State.setEntry_portT1 (s : State) (i : EntryIndex) (e : Entry) : (s.setEntry i e).portT1 = s.portT1 := rfl
@[simp] theorem State.setEntry_holdQueue (s : State) (i : EntryIndex) (e : Entry) : (s.setEntry i e).holdQueue = s.holdQueue := rfl
@[simp] theorem State.setEntry_startList (s : State) (i : EntryIndex) (e : Entry) : (s.setEntry i e).startList = s.startList := rfl
@[simp] theorem State.setEntry_lease (s : State) (i : EntryIndex) (e : Entry) : (s.setEntry i e).lease = s.lease := rfl
@[simp] theorem State.setEntry_warmPending (s : State) (i : EntryIndex) (e : Entry) : (s.setEntry i e).warmPending = s.warmPending := rfl
@[simp] theorem State.setEntry_bankA (s : State) (i : EntryIndex) (e : Entry) : (s.setEntry i e).bankA = s.bankA := rfl
@[simp] theorem State.setEntry_bankB (s : State) (i : EntryIndex) (e : Entry) : (s.setEntry i e).bankB = s.bankB := rfl
@[simp] theorem State.setEntry_active (s : State) (i : EntryIndex) (e : Entry) : (s.setEntry i e).active = s.active := rfl
@[simp] theorem State.setEntry_generation (s : State) (i : EntryIndex) (e : Entry) : (s.setEntry i e).generation = s.generation := rfl
@[simp] theorem State.setEntry_dirty (s : State) (i : EntryIndex) (e : Entry) : (s.setEntry i e).dirty = s.dirty := rfl
@[simp] theorem State.setEntry_resync (s : State) (i : EntryIndex) (e : Entry) : (s.setEntry i e).resync = s.resync := rfl
@[simp] theorem State.setEntry_alerts (s : State) (i : EntryIndex) (e : Entry) : (s.setEntry i e).alerts = s.alerts := rfl
@[simp] theorem State.setEntry_dropped (s : State) (i : EntryIndex) (e : Entry) : (s.setEntry i e).dropped = s.dropped := rfl
@[simp] theorem State.setEntry_batch (s : State) (i : EntryIndex) (e : Entry) : (s.setEntry i e).batch = s.batch := rfl
@[simp] theorem State.setEntry_sequence (s : State) (i : EntryIndex) (e : Entry) : (s.setEntry i e).sequence = s.sequence := rfl
@[simp] theorem State.setEntry_freeCells (s : State) (i : EntryIndex) (e : Entry) : (s.setEntry i e).freeCells = s.freeCells := rfl
@[simp] theorem State.setEntry_rotation (s : State) (i : EntryIndex) (e : Entry) : (s.setEntry i e).rotation = s.rotation := rfl
@[simp] theorem State.setEntry_freeCount (s : State) (i : EntryIndex) (e : Entry) : (s.setEntry i e).freeCount = s.freeCount := rfl
@[simp] theorem State.setEntry_pending (s : State) (i : EntryIndex) (e : Entry) : (s.setEntry i e).pending = s.pending := rfl

/-! ## setExchange -/

@[simp] theorem State.setExchange_resetPin (s : State) (i : EntryIndex) (x : Exchange) : (s.setExchange i x).resetPin = s.resetPin := rfl
@[simp] theorem State.setExchange_clock (s : State) (i : EntryIndex) (x : Exchange) : (s.setExchange i x).clock = s.clock := rfl
@[simp] theorem State.setExchange_portI (s : State) (i : EntryIndex) (x : Exchange) : (s.setExchange i x).portI = s.portI := rfl
@[simp] theorem State.setExchange_portT0 (s : State) (i : EntryIndex) (x : Exchange) : (s.setExchange i x).portT0 = s.portT0 := rfl
@[simp] theorem State.setExchange_portT1 (s : State) (i : EntryIndex) (x : Exchange) : (s.setExchange i x).portT1 = s.portT1 := rfl
@[simp] theorem State.setExchange_holdQueue (s : State) (i : EntryIndex) (x : Exchange) : (s.setExchange i x).holdQueue = s.holdQueue := rfl
@[simp] theorem State.setExchange_startList (s : State) (i : EntryIndex) (x : Exchange) : (s.setExchange i x).startList = s.startList := rfl
@[simp] theorem State.setExchange_lease (s : State) (i : EntryIndex) (x : Exchange) : (s.setExchange i x).lease = s.lease := rfl
@[simp] theorem State.setExchange_warmPending (s : State) (i : EntryIndex) (x : Exchange) : (s.setExchange i x).warmPending = s.warmPending := rfl
@[simp] theorem State.setExchange_bankA (s : State) (i : EntryIndex) (x : Exchange) : (s.setExchange i x).bankA = s.bankA := rfl
@[simp] theorem State.setExchange_bankB (s : State) (i : EntryIndex) (x : Exchange) : (s.setExchange i x).bankB = s.bankB := rfl
@[simp] theorem State.setExchange_active (s : State) (i : EntryIndex) (x : Exchange) : (s.setExchange i x).active = s.active := rfl
@[simp] theorem State.setExchange_generation (s : State) (i : EntryIndex) (x : Exchange) : (s.setExchange i x).generation = s.generation := rfl
@[simp] theorem State.setExchange_dirty (s : State) (i : EntryIndex) (x : Exchange) : (s.setExchange i x).dirty = s.dirty := rfl
@[simp] theorem State.setExchange_resync (s : State) (i : EntryIndex) (x : Exchange) : (s.setExchange i x).resync = s.resync := rfl
@[simp] theorem State.setExchange_alerts (s : State) (i : EntryIndex) (x : Exchange) : (s.setExchange i x).alerts = s.alerts := rfl
@[simp] theorem State.setExchange_dropped (s : State) (i : EntryIndex) (x : Exchange) : (s.setExchange i x).dropped = s.dropped := rfl
@[simp] theorem State.setExchange_batch (s : State) (i : EntryIndex) (x : Exchange) : (s.setExchange i x).batch = s.batch := rfl
@[simp] theorem State.setExchange_sequence (s : State) (i : EntryIndex) (x : Exchange) : (s.setExchange i x).sequence = s.sequence := rfl
@[simp] theorem State.setExchange_freeCells (s : State) (i : EntryIndex) (x : Exchange) : (s.setExchange i x).freeCells = s.freeCells := rfl
@[simp] theorem State.setExchange_rotation (s : State) (i : EntryIndex) (x : Exchange) : (s.setExchange i x).rotation = s.rotation := rfl
@[simp] theorem State.setExchange_freeCount (s : State) (i : EntryIndex) (x : Exchange) : (s.setExchange i x).freeCount = s.freeCount := rfl
@[simp] theorem State.setExchange_pending (s : State) (i : EntryIndex) (x : Exchange) : (s.setExchange i x).pending = s.pending := rfl

/-! ## release -/

@[simp] theorem State.release_resetPin (s : State) (n : Nat) : (s.release n).resetPin = s.resetPin := rfl
@[simp] theorem State.release_clock (s : State) (n : Nat) : (s.release n).clock = s.clock := rfl
@[simp] theorem State.release_freeCells (s : State) (n : Nat) : (s.release n).freeCells = s.freeCells + n := rfl
@[simp] theorem State.takeCells_freeCells (s : State) (n : Nat) : (s.takeCells n).freeCells = s.freeCells - n := rfl
@[simp] theorem State.discard_freeCells (s : State) (f : List Byte) : (s.discard f).freeCells = s.freeCells + cellsFor f.length := rfl
@[simp] theorem State.release_portI (s : State) (n : Nat) : (s.release n).portI = s.portI := rfl
@[simp] theorem State.release_portT0 (s : State) (n : Nat) : (s.release n).portT0 = s.portT0 := rfl
@[simp] theorem State.release_portT1 (s : State) (n : Nat) : (s.release n).portT1 = s.portT1 := rfl
@[simp] theorem State.release_entries (s : State) (n : Nat) : (s.release n).entries = s.entries := rfl
@[simp] theorem State.release_holdQueue (s : State) (n : Nat) : (s.release n).holdQueue = s.holdQueue := rfl
@[simp] theorem State.release_startList (s : State) (n : Nat) : (s.release n).startList = s.startList := rfl
@[simp] theorem State.release_lease (s : State) (n : Nat) : (s.release n).lease = s.lease := rfl
@[simp] theorem State.release_warmPending (s : State) (n : Nat) : (s.release n).warmPending = s.warmPending := rfl
@[simp] theorem State.release_bankA (s : State) (n : Nat) : (s.release n).bankA = s.bankA := rfl
@[simp] theorem State.release_bankB (s : State) (n : Nat) : (s.release n).bankB = s.bankB := rfl
@[simp] theorem State.release_active (s : State) (n : Nat) : (s.release n).active = s.active := rfl
@[simp] theorem State.release_generation (s : State) (n : Nat) : (s.release n).generation = s.generation := rfl
@[simp] theorem State.release_dirty (s : State) (n : Nat) : (s.release n).dirty = s.dirty := rfl
@[simp] theorem State.release_resync (s : State) (n : Nat) : (s.release n).resync = s.resync := rfl
@[simp] theorem State.release_alerts (s : State) (n : Nat) : (s.release n).alerts = s.alerts := rfl
@[simp] theorem State.release_dropped (s : State) (n : Nat) : (s.release n).dropped = s.dropped := rfl
@[simp] theorem State.release_batch (s : State) (n : Nat) : (s.release n).batch = s.batch := rfl
@[simp] theorem State.release_sequence (s : State) (n : Nat) : (s.release n).sequence = s.sequence := rfl
@[simp] theorem State.release_rotation (s : State) (n : Nat) : (s.release n).rotation = s.rotation := rfl
@[simp] theorem State.release_freeCount (s : State) (n : Nat) : (s.release n).freeCount = s.freeCount := rfl
@[simp] theorem State.release_pending (s : State) (n : Nat) : (s.release n).pending = s.pending := rfl

/-! ## takeCells -/

@[simp] theorem State.takeCells_resetPin (s : State) (n : Nat) : (s.takeCells n).resetPin = s.resetPin := rfl
@[simp] theorem State.takeCells_clock (s : State) (n : Nat) : (s.takeCells n).clock = s.clock := rfl
@[simp] theorem State.takeCells_portI (s : State) (n : Nat) : (s.takeCells n).portI = s.portI := rfl
@[simp] theorem State.takeCells_portT0 (s : State) (n : Nat) : (s.takeCells n).portT0 = s.portT0 := rfl
@[simp] theorem State.takeCells_portT1 (s : State) (n : Nat) : (s.takeCells n).portT1 = s.portT1 := rfl
@[simp] theorem State.takeCells_entries (s : State) (n : Nat) : (s.takeCells n).entries = s.entries := rfl
@[simp] theorem State.takeCells_holdQueue (s : State) (n : Nat) : (s.takeCells n).holdQueue = s.holdQueue := rfl
@[simp] theorem State.takeCells_startList (s : State) (n : Nat) : (s.takeCells n).startList = s.startList := rfl
@[simp] theorem State.takeCells_lease (s : State) (n : Nat) : (s.takeCells n).lease = s.lease := rfl
@[simp] theorem State.takeCells_warmPending (s : State) (n : Nat) : (s.takeCells n).warmPending = s.warmPending := rfl
@[simp] theorem State.takeCells_bankA (s : State) (n : Nat) : (s.takeCells n).bankA = s.bankA := rfl
@[simp] theorem State.takeCells_bankB (s : State) (n : Nat) : (s.takeCells n).bankB = s.bankB := rfl
@[simp] theorem State.takeCells_active (s : State) (n : Nat) : (s.takeCells n).active = s.active := rfl
@[simp] theorem State.takeCells_generation (s : State) (n : Nat) : (s.takeCells n).generation = s.generation := rfl
@[simp] theorem State.takeCells_dirty (s : State) (n : Nat) : (s.takeCells n).dirty = s.dirty := rfl
@[simp] theorem State.takeCells_resync (s : State) (n : Nat) : (s.takeCells n).resync = s.resync := rfl
@[simp] theorem State.takeCells_alerts (s : State) (n : Nat) : (s.takeCells n).alerts = s.alerts := rfl
@[simp] theorem State.takeCells_dropped (s : State) (n : Nat) : (s.takeCells n).dropped = s.dropped := rfl
@[simp] theorem State.takeCells_batch (s : State) (n : Nat) : (s.takeCells n).batch = s.batch := rfl
@[simp] theorem State.takeCells_sequence (s : State) (n : Nat) : (s.takeCells n).sequence = s.sequence := rfl
@[simp] theorem State.takeCells_rotation (s : State) (n : Nat) : (s.takeCells n).rotation = s.rotation := rfl
@[simp] theorem State.takeCells_freeCount (s : State) (n : Nat) : (s.takeCells n).freeCount = s.freeCount := rfl
@[simp] theorem State.takeCells_pending (s : State) (n : Nat) : (s.takeCells n).pending = s.pending := rfl

/-! ## discard -/

@[simp] theorem State.discard_resetPin (s : State) (f : List Byte) : (s.discard f).resetPin = s.resetPin := rfl
@[simp] theorem State.discard_clock (s : State) (f : List Byte) : (s.discard f).clock = s.clock := rfl
@[simp] theorem State.discard_portI (s : State) (f : List Byte) : (s.discard f).portI = s.portI := rfl
@[simp] theorem State.discard_portT0 (s : State) (f : List Byte) : (s.discard f).portT0 = s.portT0 := rfl
@[simp] theorem State.discard_portT1 (s : State) (f : List Byte) : (s.discard f).portT1 = s.portT1 := rfl
@[simp] theorem State.discard_entries (s : State) (f : List Byte) : (s.discard f).entries = s.entries := rfl
@[simp] theorem State.discard_holdQueue (s : State) (f : List Byte) : (s.discard f).holdQueue = s.holdQueue := rfl
@[simp] theorem State.discard_startList (s : State) (f : List Byte) : (s.discard f).startList = s.startList := rfl
@[simp] theorem State.discard_lease (s : State) (f : List Byte) : (s.discard f).lease = s.lease := rfl
@[simp] theorem State.discard_warmPending (s : State) (f : List Byte) : (s.discard f).warmPending = s.warmPending := rfl
@[simp] theorem State.discard_bankA (s : State) (f : List Byte) : (s.discard f).bankA = s.bankA := rfl
@[simp] theorem State.discard_bankB (s : State) (f : List Byte) : (s.discard f).bankB = s.bankB := rfl
@[simp] theorem State.discard_active (s : State) (f : List Byte) : (s.discard f).active = s.active := rfl
@[simp] theorem State.discard_generation (s : State) (f : List Byte) : (s.discard f).generation = s.generation := rfl
@[simp] theorem State.discard_dirty (s : State) (f : List Byte) : (s.discard f).dirty = s.dirty := rfl
@[simp] theorem State.discard_resync (s : State) (f : List Byte) : (s.discard f).resync = s.resync := rfl
@[simp] theorem State.discard_alerts (s : State) (f : List Byte) : (s.discard f).alerts = s.alerts := rfl
@[simp] theorem State.discard_dropped (s : State) (f : List Byte) : (s.discard f).dropped = s.dropped := rfl
@[simp] theorem State.discard_batch (s : State) (f : List Byte) : (s.discard f).batch = s.batch := rfl
@[simp] theorem State.discard_sequence (s : State) (f : List Byte) : (s.discard f).sequence = s.sequence := rfl
@[simp] theorem State.discard_rotation (s : State) (f : List Byte) : (s.discard f).rotation = s.rotation := rfl
@[simp] theorem State.discard_freeCount (s : State) (f : List Byte) : (s.discard f).freeCount = s.freeCount := rfl
@[simp] theorem State.discard_pending (s : State) (f : List Byte) : (s.discard f).pending = s.pending := rfl

/-! ## post -/

@[simp] theorem State.post_resetPin (s : State) (a : Alert) : (s.post a).resetPin = s.resetPin := by unfold State.post; split <;> rfl
@[simp] theorem State.post_clock (s : State) (a : Alert) : (s.post a).clock = s.clock := by unfold State.post; split <;> rfl
@[simp] theorem State.post_portI (s : State) (a : Alert) : (s.post a).portI = s.portI := by unfold State.post; split <;> rfl
@[simp] theorem State.post_portT0 (s : State) (a : Alert) : (s.post a).portT0 = s.portT0 := by unfold State.post; split <;> rfl
@[simp] theorem State.post_portT1 (s : State) (a : Alert) : (s.post a).portT1 = s.portT1 := by unfold State.post; split <;> rfl
@[simp] theorem State.post_entries (s : State) (a : Alert) : (s.post a).entries = s.entries := by unfold State.post; split <;> rfl
@[simp] theorem State.post_holdQueue (s : State) (a : Alert) : (s.post a).holdQueue = s.holdQueue := by unfold State.post; split <;> rfl
@[simp] theorem State.post_startList (s : State) (a : Alert) : (s.post a).startList = s.startList := by unfold State.post; split <;> rfl
@[simp] theorem State.post_lease (s : State) (a : Alert) : (s.post a).lease = s.lease := by unfold State.post; split <;> rfl
@[simp] theorem State.post_warmPending (s : State) (a : Alert) : (s.post a).warmPending = s.warmPending := by unfold State.post; split <;> rfl
@[simp] theorem State.post_bankA (s : State) (a : Alert) : (s.post a).bankA = s.bankA := by unfold State.post; split <;> rfl
@[simp] theorem State.post_bankB (s : State) (a : Alert) : (s.post a).bankB = s.bankB := by unfold State.post; split <;> rfl
@[simp] theorem State.post_active (s : State) (a : Alert) : (s.post a).active = s.active := by unfold State.post; split <;> rfl
@[simp] theorem State.post_generation (s : State) (a : Alert) : (s.post a).generation = s.generation := by unfold State.post; split <;> rfl
@[simp] theorem State.post_dirty (s : State) (a : Alert) : (s.post a).dirty = s.dirty := by unfold State.post; split <;> rfl
@[simp] theorem State.post_resync (s : State) (a : Alert) : (s.post a).resync = s.resync := by unfold State.post; split <;> rfl
@[simp] theorem State.post_batch (s : State) (a : Alert) : (s.post a).batch = s.batch := by unfold State.post; split <;> rfl
@[simp] theorem State.post_sequence (s : State) (a : Alert) : (s.post a).sequence = s.sequence := by unfold State.post; split <;> rfl
@[simp] theorem State.post_freeCells (s : State) (a : Alert) : (s.post a).freeCells = s.freeCells := by unfold State.post; split <;> rfl
@[simp] theorem State.post_rotation (s : State) (a : Alert) : (s.post a).rotation = s.rotation := by unfold State.post; split <;> rfl
@[simp] theorem State.post_freeCount (s : State) (a : Alert) : (s.post a).freeCount = s.freeCount := by unfold State.post; split <;> rfl
@[simp] theorem State.post_pending (s : State) (a : Alert) : (s.post a).pending = s.pending := by unfold State.post; split <;> rfl

/-! ## setStaging -/

@[simp] theorem State.setStaging_resetPin (s : State) (b : Bank) : (s.setStaging b).resetPin = s.resetPin := by unfold State.setStaging; split <;> rfl
@[simp] theorem State.setStaging_clock (s : State) (b : Bank) : (s.setStaging b).clock = s.clock := by unfold State.setStaging; split <;> rfl
@[simp] theorem State.setStaging_portI (s : State) (b : Bank) : (s.setStaging b).portI = s.portI := by unfold State.setStaging; split <;> rfl
@[simp] theorem State.setStaging_portT0 (s : State) (b : Bank) : (s.setStaging b).portT0 = s.portT0 := by unfold State.setStaging; split <;> rfl
@[simp] theorem State.setStaging_portT1 (s : State) (b : Bank) : (s.setStaging b).portT1 = s.portT1 := by unfold State.setStaging; split <;> rfl
@[simp] theorem State.setStaging_entries (s : State) (b : Bank) : (s.setStaging b).entries = s.entries := by unfold State.setStaging; split <;> rfl
@[simp] theorem State.setStaging_holdQueue (s : State) (b : Bank) : (s.setStaging b).holdQueue = s.holdQueue := by unfold State.setStaging; split <;> rfl
@[simp] theorem State.setStaging_startList (s : State) (b : Bank) : (s.setStaging b).startList = s.startList := by unfold State.setStaging; split <;> rfl
@[simp] theorem State.setStaging_lease (s : State) (b : Bank) : (s.setStaging b).lease = s.lease := by unfold State.setStaging; split <;> rfl
@[simp] theorem State.setStaging_warmPending (s : State) (b : Bank) : (s.setStaging b).warmPending = s.warmPending := by unfold State.setStaging; split <;> rfl
@[simp] theorem State.setStaging_active (s : State) (b : Bank) : (s.setStaging b).active = s.active := by unfold State.setStaging; split <;> rfl
@[simp] theorem State.setStaging_generation (s : State) (b : Bank) : (s.setStaging b).generation = s.generation := by unfold State.setStaging; split <;> rfl
@[simp] theorem State.setStaging_dirty (s : State) (b : Bank) : (s.setStaging b).dirty = s.dirty := by unfold State.setStaging; split <;> rfl
@[simp] theorem State.setStaging_resync (s : State) (b : Bank) : (s.setStaging b).resync = s.resync := by unfold State.setStaging; split <;> rfl
@[simp] theorem State.setStaging_alerts (s : State) (b : Bank) : (s.setStaging b).alerts = s.alerts := by unfold State.setStaging; split <;> rfl
@[simp] theorem State.setStaging_dropped (s : State) (b : Bank) : (s.setStaging b).dropped = s.dropped := by unfold State.setStaging; split <;> rfl
@[simp] theorem State.setStaging_batch (s : State) (b : Bank) : (s.setStaging b).batch = s.batch := by unfold State.setStaging; split <;> rfl
@[simp] theorem State.setStaging_sequence (s : State) (b : Bank) : (s.setStaging b).sequence = s.sequence := by unfold State.setStaging; split <;> rfl
@[simp] theorem State.setStaging_freeCells (s : State) (b : Bank) : (s.setStaging b).freeCells = s.freeCells := by unfold State.setStaging; split <;> rfl
@[simp] theorem State.setStaging_rotation (s : State) (b : Bank) : (s.setStaging b).rotation = s.rotation := by unfold State.setStaging; split <;> rfl
@[simp] theorem State.setStaging_freeCount (s : State) (b : Bank) : (s.setStaging b).freeCount = s.freeCount := by unfold State.setStaging; split <;> rfl
@[simp] theorem State.setStaging_pending (s : State) (b : Bank) : (s.setStaging b).pending = s.pending := by unfold State.setStaging; split <;> rfl

/-! ## startResync -/

@[simp] theorem State.startResync_resetPin (s : State) : (s.startResync).resetPin = s.resetPin := rfl
@[simp] theorem State.startResync_clock (s : State) : (s.startResync).clock = s.clock := rfl
@[simp] theorem State.startResync_portI (s : State) : (s.startResync).portI = s.portI := rfl
@[simp] theorem State.startResync_portT0 (s : State) : (s.startResync).portT0 = s.portT0 := rfl
@[simp] theorem State.startResync_portT1 (s : State) : (s.startResync).portT1 = s.portT1 := rfl
@[simp] theorem State.startResync_entries (s : State) : (s.startResync).entries = s.entries := rfl
@[simp] theorem State.startResync_holdQueue (s : State) : (s.startResync).holdQueue = s.holdQueue := rfl
@[simp] theorem State.startResync_startList (s : State) : (s.startResync).startList = s.startList := rfl
@[simp] theorem State.startResync_lease (s : State) : (s.startResync).lease = s.lease := rfl
@[simp] theorem State.startResync_warmPending (s : State) : (s.startResync).warmPending = s.warmPending := rfl
@[simp] theorem State.startResync_bankA (s : State) : (s.startResync).bankA = s.bankA := rfl
@[simp] theorem State.startResync_bankB (s : State) : (s.startResync).bankB = s.bankB := rfl
@[simp] theorem State.startResync_active (s : State) : (s.startResync).active = s.active := rfl
@[simp] theorem State.startResync_generation (s : State) : (s.startResync).generation = s.generation := rfl
@[simp] theorem State.startResync_dirty (s : State) : (s.startResync).dirty = s.dirty := rfl
@[simp] theorem State.startResync_alerts (s : State) : (s.startResync).alerts = s.alerts := rfl
@[simp] theorem State.startResync_dropped (s : State) : (s.startResync).dropped = s.dropped := rfl
@[simp] theorem State.startResync_batch (s : State) : (s.startResync).batch = s.batch := rfl
@[simp] theorem State.startResync_sequence (s : State) : (s.startResync).sequence = s.sequence := rfl
@[simp] theorem State.startResync_freeCells (s : State) : (s.startResync).freeCells = s.freeCells := rfl
@[simp] theorem State.startResync_rotation (s : State) : (s.startResync).rotation = s.rotation := rfl
@[simp] theorem State.startResync_freeCount (s : State) : (s.startResync).freeCount = s.freeCount := rfl
@[simp] theorem State.startResync_pending (s : State) : (s.startResync).pending = s.pending := rfl

/-! ## powerOn -/

@[simp] theorem State.powerOn_freeCount (s : State) (pin : Bool) : (s.powerOn pin).freeCount = s.freeCount := rfl
@[simp] theorem State.powerOn_pending (s : State) (pin : Bool) : (s.powerOn pin).pending = s.pending := rfl

/-! ## Ports -/

@[simp] theorem State.setPort_port_self (s : State) (p : Port) (r : PortRecord) : (s.setPort p r).port p = r := by cases p <;> rfl

theorem State.setPort_port_ne (s : State) {p q : Port} (r : PortRecord) (h : q ≠ p) : (s.setPort p r).port q = s.port q := by
  cases p <;> cases q <;> first | rfl | exact absurd rfl h

theorem State.setPort_port (s : State) (p q : Port) (r : PortRecord) :
    (s.setPort p r).port q = if q = p then r else s.port q := by
  split
  · next h => rw [h, State.setPort_port_self]
  · next h => exact s.setPort_port_ne r h

@[simp] theorem State.setEntry_port (s : State) (i : EntryIndex) (e : Entry) (q : Port) : (s.setEntry i e).port q = s.port q := by cases q <;> rfl
@[simp] theorem State.setExchange_port (s : State) (i : EntryIndex) (x : Exchange) (q : Port) : (s.setExchange i x).port q = s.port q := by cases q <;> rfl
@[simp] theorem State.release_port (s : State) (n : Nat) (q : Port) : (s.release n).port q = s.port q := by cases q <;> rfl
@[simp] theorem State.takeCells_port (s : State) (n : Nat) (q : Port) : (s.takeCells n).port q = s.port q := by cases q <;> rfl
@[simp] theorem State.discard_port (s : State) (f : List Byte) (q : Port) : (s.discard f).port q = s.port q := by cases q <;> rfl
@[simp] theorem State.post_port (s : State) (a : Alert) (q : Port) : (s.post a).port q = s.port q := by cases q <;> simp [State.port]
@[simp] theorem State.setStaging_port (s : State) (b : Bank) (q : Port) : (s.setStaging b).port q = s.port q := by cases q <;> simp [State.port]
@[simp] theorem State.startResync_port (s : State) (q : Port) : (s.startResync).port q = s.port q := by cases q <;> rfl

/-! ## Entries -/

@[simp] theorem State.setEntry_entry_self (s : State) (i : EntryIndex) (e : Entry) : (s.setEntry i e).entry i = e := by
  simp [State.setEntry, State.entry]

theorem State.setEntry_entry_ne (s : State) {i j : EntryIndex} (e : Entry) (h : j ≠ i) : (s.setEntry i e).entry j = s.entry j := by
  have hv : (i : Nat) ≠ j := fun hv => h (Fin.ext hv.symm)
  simp [State.setEntry, State.entry, hv]

theorem State.setEntry_entry (s : State) (i j : EntryIndex) (e : Entry) :
    (s.setEntry i e).entry j = if j = i then e else s.entry j := by
  split
  · next h => rw [h, State.setEntry_entry_self]
  · next h => exact s.setEntry_entry_ne e h

@[simp] theorem State.setExchange_entry_self (s : State) (i : EntryIndex) (x : Exchange) :
    (s.setExchange i x).entry i = { s.entry i with exchange := some x } := State.setEntry_entry_self ..

theorem State.setExchange_entry_ne (s : State) {i j : EntryIndex} (x : Exchange) (h : j ≠ i) :
    (s.setExchange i x).entry j = s.entry j := State.setEntry_entry_ne _ _ h

theorem State.setExchange_entry_inc (s : State) (i j : EntryIndex) (x : Exchange) :
    ((s.setExchange i x).entry j).inc = (s.entry j).inc := by
  by_cases h : j = i
  · subst h; simp
  · rw [State.setExchange_entry_ne s x h]

@[simp] theorem State.setPort_entry (s : State) (p : Port) (r : PortRecord) (j : EntryIndex) : (s.setPort p r).entry j = s.entry j := by simp [State.entry]
@[simp] theorem State.release_entry (s : State) (n : Nat) (j : EntryIndex) : (s.release n).entry j = s.entry j := by simp [State.entry]
@[simp] theorem State.takeCells_entry (s : State) (n : Nat) (j : EntryIndex) : (s.takeCells n).entry j = s.entry j := by simp [State.entry]
@[simp] theorem State.discard_entry (s : State) (f : List Byte) (j : EntryIndex) : (s.discard f).entry j = s.entry j := by simp [State.entry]
@[simp] theorem State.post_entry (s : State) (a : Alert) (j : EntryIndex) : (s.post a).entry j = s.entry j := by simp [State.entry]
@[simp] theorem State.setStaging_entry (s : State) (b : Bank) (j : EntryIndex) : (s.setStaging b).entry j = s.entry j := by simp [State.entry]
@[simp] theorem State.startResync_entry (s : State) (j : EntryIndex) : (s.startResync).entry j = s.entry j := by simp [State.entry]

end Sys2Proof.Machine
end

