-- ==== Sys2Proof/Laws/Ops.lean ====
section
/-! SUPPORT. The shared operations of Machine/Ops.lean and Machine/Performance.lean: what each can do, and what it leaves as it was. -/

namespace Sys2Proof.Machine

/-! ## enqueue -/

/-- On a port in UP the descriptor joins the tail. -/
theorem State.enqueue_of_up {s : State} {p : Port} (h : s.isUp p = true) (d : Descriptor) :
    s.enqueue p d = s.setPort p { s.port p with egress := (s.port p).egress ++ [d] } := by simp [State.enqueue, h]

/-- On a port that is not UP the descriptor is discarded as it is queued. -/
theorem State.enqueue_of_not_up {s : State} {p : Port} (h : s.isUp p = false) (d : Descriptor) :
    s.enqueue p d = s.release d.cells := by simp [State.enqueue, h]

@[simp] theorem State.enqueue_resetPin (s : State) (p : Port) (d : Descriptor) : (s.enqueue p d).resetPin = s.resetPin := by
  unfold State.enqueue; split <;> simp
@[simp] theorem State.enqueue_clock (s : State) (p : Port) (d : Descriptor) : (s.enqueue p d).clock = s.clock := by
  unfold State.enqueue; split <;> simp
@[simp] theorem State.enqueue_entries (s : State) (p : Port) (d : Descriptor) : (s.enqueue p d).entries = s.entries := by
  unfold State.enqueue; split <;> simp
@[simp] theorem State.enqueue_holdQueue (s : State) (p : Port) (d : Descriptor) : (s.enqueue p d).holdQueue = s.holdQueue := by
  unfold State.enqueue; split <;> simp
@[simp] theorem State.enqueue_startList (s : State) (p : Port) (d : Descriptor) : (s.enqueue p d).startList = s.startList := by
  unfold State.enqueue; split <;> simp
@[simp] theorem State.enqueue_lease (s : State) (p : Port) (d : Descriptor) : (s.enqueue p d).lease = s.lease := by
  unfold State.enqueue; split <;> simp
@[simp] theorem State.enqueue_warmPending (s : State) (p : Port) (d : Descriptor) : (s.enqueue p d).warmPending = s.warmPending := by
  unfold State.enqueue; split <;> simp
@[simp] theorem State.enqueue_bankA (s : State) (p : Port) (d : Descriptor) : (s.enqueue p d).bankA = s.bankA := by
  unfold State.enqueue; split <;> simp
@[simp] theorem State.enqueue_bankB (s : State) (p : Port) (d : Descriptor) : (s.enqueue p d).bankB = s.bankB := by
  unfold State.enqueue; split <;> simp
@[simp] theorem State.enqueue_active (s : State) (p : Port) (d : Descriptor) : (s.enqueue p d).active = s.active := by
  unfold State.enqueue; split <;> simp
@[simp] theorem State.enqueue_generation (s : State) (p : Port) (d : Descriptor) : (s.enqueue p d).generation = s.generation := by
  unfold State.enqueue; split <;> simp
@[simp] theorem State.enqueue_dirty (s : State) (p : Port) (d : Descriptor) : (s.enqueue p d).dirty = s.dirty := by
  unfold State.enqueue; split <;> simp
@[simp] theorem State.enqueue_resync (s : State) (p : Port) (d : Descriptor) : (s.enqueue p d).resync = s.resync := by
  unfold State.enqueue; split <;> simp
@[simp] theorem State.enqueue_alerts (s : State) (p : Port) (d : Descriptor) : (s.enqueue p d).alerts = s.alerts := by
  unfold State.enqueue; split <;> simp
@[simp] theorem State.enqueue_dropped (s : State) (p : Port) (d : Descriptor) : (s.enqueue p d).dropped = s.dropped := by
  unfold State.enqueue; split <;> simp
@[simp] theorem State.enqueue_batch (s : State) (p : Port) (d : Descriptor) : (s.enqueue p d).batch = s.batch := by
  unfold State.enqueue; split <;> simp
@[simp] theorem State.enqueue_sequence (s : State) (p : Port) (d : Descriptor) : (s.enqueue p d).sequence = s.sequence := by
  unfold State.enqueue; split <;> simp
@[simp] theorem State.enqueue_rotation (s : State) (p : Port) (d : Descriptor) : (s.enqueue p d).rotation = s.rotation := by
  unfold State.enqueue; split <;> simp
@[simp] theorem State.enqueue_freeCount (s : State) (p : Port) (d : Descriptor) : (s.enqueue p d).freeCount = s.freeCount := by
  unfold State.enqueue; split <;> simp
@[simp] theorem State.enqueue_pending (s : State) (p : Port) (d : Descriptor) : (s.enqueue p d).pending = s.pending := by
  unfold State.enqueue; split <;> simp
@[simp] theorem State.enqueue_entry (s : State) (p : Port) (d : Descriptor) (i : EntryIndex) :
    (s.enqueue p d).entry i = s.entry i := by simp [State.entry]

/-- Of a port's record, enqueue changes the egress queue alone. -/
theorem State.enqueue_port (s : State) (p q : Port) (d : Descriptor) :
    (s.enqueue p d).port q
      = { s.port q with egress := (s.port q).egress ++ (if q = p ∧ s.isUp p = true then [d] else []) } := by
  unfold State.enqueue
  cases h : s.isUp p
  · simp
  · simp only [if_true]
    by_cases hq : q = p
    · subst hq; simp
    · rw [State.setPort_port_ne s _ hq]; simp [hq]

@[simp] theorem State.enqueue_port_state (s : State) (p q : Port) (d : Descriptor) :
    ((s.enqueue p d).port q).state = (s.port q).state := by rw [State.enqueue_port]

@[simp] theorem State.enqueue_isUp (s : State) (p q : Port) (d : Descriptor) : (s.enqueue p d).isUp q = s.isUp q := by
  simp [State.isUp]

/-! ## withdraw and purge -/

@[simp] theorem State.withdraw_resetPin (s : State) (p : Port) (g : Descriptor → Bool) : (s.withdraw p g).resetPin = s.resetPin := by
  simp [State.withdraw]
@[simp] theorem State.withdraw_clock (s : State) (p : Port) (g : Descriptor → Bool) : (s.withdraw p g).clock = s.clock := by
  simp [State.withdraw]
@[simp] theorem State.withdraw_entries (s : State) (p : Port) (g : Descriptor → Bool) : (s.withdraw p g).entries = s.entries := by
  simp [State.withdraw]
@[simp] theorem State.withdraw_holdQueue (s : State) (p : Port) (g : Descriptor → Bool) : (s.withdraw p g).holdQueue = s.holdQueue := by
  simp [State.withdraw]
@[simp] theorem State.withdraw_startList (s : State) (p : Port) (g : Descriptor → Bool) : (s.withdraw p g).startList = s.startList := by
  simp [State.withdraw]
@[simp] theorem State.withdraw_lease (s : State) (p : Port) (g : Descriptor → Bool) : (s.withdraw p g).lease = s.lease := by
  simp [State.withdraw]
@[simp] theorem State.withdraw_warmPending (s : State) (p : Port) (g : Descriptor → Bool) : (s.withdraw p g).warmPending = s.warmPending := by
  simp [State.withdraw]
@[simp] theorem State.withdraw_bankA (s : State) (p : Port) (g : Descriptor → Bool) : (s.withdraw p g).bankA = s.bankA := by
  simp [State.withdraw]
@[simp] theorem State.withdraw_bankB (s : State) (p : Port) (g : Descriptor → Bool) : (s.withdraw p g).bankB = s.bankB := by
  simp [State.withdraw]
@[simp] theorem State.withdraw_active (s : State) (p : Port) (g : Descriptor → Bool) : (s.withdraw p g).active = s.active := by
  simp [State.withdraw]
@[simp] theorem State.withdraw_generation (s : State) (p : Port) (g : Descriptor → Bool) : (s.withdraw p g).generation = s.generation := by
  simp [State.withdraw]
@[simp] theorem State.withdraw_dirty (s : State) (p : Port) (g : Descriptor → Bool) : (s.withdraw p g).dirty = s.dirty := by
  simp [State.withdraw]
@[simp] theorem State.withdraw_resync (s : State) (p : Port) (g : Descriptor → Bool) : (s.withdraw p g).resync = s.resync := by
  simp [State.withdraw]
@[simp] theorem State.withdraw_alerts (s : State) (p : Port) (g : Descriptor → Bool) : (s.withdraw p g).alerts = s.alerts := by
  simp [State.withdraw]
@[simp] theorem State.withdraw_dropped (s : State) (p : Port) (g : Descriptor → Bool) : (s.withdraw p g).dropped = s.dropped := by
  simp [State.withdraw]
@[simp] theorem State.withdraw_batch (s : State) (p : Port) (g : Descriptor → Bool) : (s.withdraw p g).batch = s.batch := by
  simp [State.withdraw]
@[simp] theorem State.withdraw_sequence (s : State) (p : Port) (g : Descriptor → Bool) : (s.withdraw p g).sequence = s.sequence := by
  simp [State.withdraw]
@[simp] theorem State.withdraw_rotation (s : State) (p : Port) (g : Descriptor → Bool) : (s.withdraw p g).rotation = s.rotation := by
  simp [State.withdraw]
@[simp] theorem State.withdraw_freeCount (s : State) (p : Port) (g : Descriptor → Bool) : (s.withdraw p g).freeCount = s.freeCount := by
  simp [State.withdraw]
@[simp] theorem State.withdraw_pending (s : State) (p : Port) (g : Descriptor → Bool) : (s.withdraw p g).pending = s.pending := by
  simp [State.withdraw]
@[simp] theorem State.withdraw_entry (s : State) (p : Port) (g : Descriptor → Bool) (i : EntryIndex) :
    (s.withdraw p g).entry i = s.entry i := by simp [State.entry]

/-- Of a port's record, withdraw changes the egress queue alone, and keeps what `g` does not select in its order. -/
theorem State.withdraw_port (s : State) (p q : Port) (g : Descriptor → Bool) :
    (s.withdraw p g).port q
      = { s.port q with egress := if q = p then (s.port q).egress.filter (fun d => !g d) else (s.port q).egress } := by
  unfold State.withdraw
  by_cases hq : q = p
  · subst hq; simp
  · simp [State.setPort_port_ne, hq]

@[simp] theorem State.withdraw_port_state (s : State) (p q : Port) (g : Descriptor → Bool) :
    ((s.withdraw p g).port q).state = (s.port q).state := by rw [State.withdraw_port]

@[simp] theorem State.withdraw_isUp (s : State) (p q : Port) (g : Descriptor → Bool) : (s.withdraw p g).isUp q = s.isUp q := by
  simp [State.isUp]

/-- The cells of the descriptors that leave are freed. -/
theorem State.withdraw_freeCells (s : State) (p : Port) (g : Descriptor → Bool) :
    (s.withdraw p g).freeCells = s.freeCells + queueCells ((s.port p).egress.filter g) := by
  simp [State.withdraw, State.release]

/-! ## freeEntry (R19) -/

@[simp] theorem State.freeEntry_resetPin (s : State) (i : EntryIndex) : (s.freeEntry i).resetPin = s.resetPin := by
  unfold State.freeEntry; split <;> simp [State.release]
@[simp] theorem State.freeEntry_clock (s : State) (i : EntryIndex) : (s.freeEntry i).clock = s.clock := by
  unfold State.freeEntry; split <;> simp [State.release]
@[simp] theorem State.freeEntry_portI (s : State) (i : EntryIndex) : (s.freeEntry i).portI = s.portI := by
  unfold State.freeEntry; split <;> simp [State.release]
@[simp] theorem State.freeEntry_portT0 (s : State) (i : EntryIndex) : (s.freeEntry i).portT0 = s.portT0 := by
  unfold State.freeEntry; split <;> simp [State.release]
@[simp] theorem State.freeEntry_portT1 (s : State) (i : EntryIndex) : (s.freeEntry i).portT1 = s.portT1 := by
  unfold State.freeEntry; split <;> simp [State.release]
@[simp] theorem State.freeEntry_startList (s : State) (i : EntryIndex) : (s.freeEntry i).startList = s.startList := by
  unfold State.freeEntry; split <;> simp [State.release]
@[simp] theorem State.freeEntry_lease (s : State) (i : EntryIndex) : (s.freeEntry i).lease = s.lease := by
  unfold State.freeEntry; split <;> simp [State.release]
@[simp] theorem State.freeEntry_warmPending (s : State) (i : EntryIndex) : (s.freeEntry i).warmPending = s.warmPending := by
  unfold State.freeEntry; split <;> simp [State.release]
@[simp] theorem State.freeEntry_bankA (s : State) (i : EntryIndex) : (s.freeEntry i).bankA = s.bankA := by
  unfold State.freeEntry; split <;> simp [State.release]
@[simp] theorem State.freeEntry_bankB (s : State) (i : EntryIndex) : (s.freeEntry i).bankB = s.bankB := by
  unfold State.freeEntry; split <;> simp [State.release]
@[simp] theorem State.freeEntry_active (s : State) (i : EntryIndex) : (s.freeEntry i).active = s.active := by
  unfold State.freeEntry; split <;> simp [State.release]
@[simp] theorem State.freeEntry_generation (s : State) (i : EntryIndex) : (s.freeEntry i).generation = s.generation := by
  unfold State.freeEntry; split <;> simp [State.release]
@[simp] theorem State.freeEntry_dirty (s : State) (i : EntryIndex) : (s.freeEntry i).dirty = s.dirty := by
  unfold State.freeEntry; split <;> simp [State.release]
@[simp] theorem State.freeEntry_resync (s : State) (i : EntryIndex) : (s.freeEntry i).resync = s.resync := by
  unfold State.freeEntry; split <;> simp [State.release]
@[simp] theorem State.freeEntry_alerts (s : State) (i : EntryIndex) : (s.freeEntry i).alerts = s.alerts := by
  unfold State.freeEntry; split <;> simp [State.release]
@[simp] theorem State.freeEntry_dropped (s : State) (i : EntryIndex) : (s.freeEntry i).dropped = s.dropped := by
  unfold State.freeEntry; split <;> simp [State.release]
@[simp] theorem State.freeEntry_batch (s : State) (i : EntryIndex) : (s.freeEntry i).batch = s.batch := by
  unfold State.freeEntry; split <;> simp [State.release]
@[simp] theorem State.freeEntry_sequence (s : State) (i : EntryIndex) : (s.freeEntry i).sequence = s.sequence := by
  unfold State.freeEntry; split <;> simp [State.release]
@[simp] theorem State.freeEntry_rotation (s : State) (i : EntryIndex) : (s.freeEntry i).rotation = s.rotation := by
  unfold State.freeEntry; split <;> simp [State.release]
@[simp] theorem State.freeEntry_freeCount (s : State) (i : EntryIndex) : (s.freeEntry i).freeCount = s.freeCount := by
  unfold State.freeEntry; split <;> simp [State.release]
@[simp] theorem State.freeEntry_pending (s : State) (i : EntryIndex) : (s.freeEntry i).pending = s.pending := by
  unfold State.freeEntry; split <;> simp [State.release]
/-- A freed entry is FREE and keeps its incarnation. -/
theorem State.freeEntry_entry_self (s : State) (i : EntryIndex) :
    (s.freeEntry i).entry i = { s.entry i with exchange := none } := by
  unfold State.freeEntry
  split
  · next h => rw [← h]
  · show ((s.setEntry i { s.entry i with exchange := none }).entry i) = _
    simp

/-- Every other entry stands. -/
theorem State.freeEntry_entry_ne (s : State) {i j : EntryIndex} (h : j ≠ i) : (s.freeEntry i).entry j = s.entry j := by
  unfold State.freeEntry
  split
  · rfl
  · show ((s.setEntry i _).entry j) = _
    rw [State.setEntry_entry_ne s _ h]

@[simp] theorem State.freeEntry_port (s : State) (i : EntryIndex) (q : Port) : (s.freeEntry i).port q = s.port q := by
  cases q <;> simp [State.port]

/-- The cells the entry held are freed. -/
theorem State.freeEntry_freeCells (s : State) (i : EntryIndex) :
    (s.freeEntry i).freeCells = s.freeCells + (s.entry i).cells := by
  unfold State.freeEntry Entry.cells
  split
  · next h => simp [h]
  · next h => simp [h, State.release]

/-! ## post (R158) -/

/-- An alert joins the tail while the queue holds fewer than 32 records. -/
theorem State.post_of_room {s : State} (h : s.alerts.length < Config.alertRecords) (a : Alert) :
    s.post a = { s with alerts := s.alerts ++ [a] } := by simp [State.post, h]

/-- A full queue keeps its records and the dropped count rises, staying at 65535. -/
theorem State.post_of_full {s : State} (h : ¬s.alerts.length < Config.alertRecords) (a : Alert) :
    s.post a = { s with dropped := min Config.droppedMax (s.dropped + 1) } := by simp [State.post, h]

/-- The queue never passes 32 records. -/
theorem State.post_length (s : State) (a : Alert) (h : s.alerts.length ≤ Config.alertRecords) :
    (s.post a).alerts.length ≤ Config.alertRecords := by
  unfold State.post
  split
  · simp; omega
  · exact h

/-! ## Credit grants (R116) -/

/-- A grant needs nine free cells and an eligible port. -/
theorem State.grantOne_some {s t : State} (h : s.grantOne = some t) :
    Config.creditCells ≤ s.freeCells ∧ ∃ p, s.grantee = some p ∧ s.eligible p = true
      ∧ t = { (s.setPort p { s.port p with owed := (s.port p).owed + 1 }).takeCells Config.creditCells with rotation := nextPort p } := by
  unfold State.grantOne at h
  split at h
  · cases h
  · next hf =>
    split at h
    · cases h
    · next p hp =>
      injection h with h
      exact ⟨Nat.le_of_not_lt hf, p, hp, List.find?_some hp, h.symm⟩

/-- No grant is made exactly when fewer than nine cells are free or no port is eligible. -/
theorem State.grantOne_none (s : State) :
    s.grantOne = none ↔ s.freeCells < Config.creditCells ∨ s.grantee = none := by
  unfold State.grantOne
  split
  · next h => simp [h]
  · next h =>
    cases hg : s.grantee
    · simp
    · simp [h]

theorem State.grantUpTo_resetPin (n : Nat) (s : State) : (s.grantUpTo n).resetPin = s.resetPin := by
  induction n generalizing s with
  | zero => rfl
  | succ n ih =>
    unfold State.grantUpTo
    split
    · next t h =>
      obtain ⟨-, p, -, -, rfl⟩ := State.grantOne_some h
      rw [ih]; simp
    · rfl

@[simp] theorem State.grant_resetPin (s : State) : s.grant.resetPin = s.resetPin := State.grantUpTo_resetPin _ s
theorem State.grantUpTo_clock (n : Nat) (s : State) : (s.grantUpTo n).clock = s.clock := by
  induction n generalizing s with
  | zero => rfl
  | succ n ih =>
    unfold State.grantUpTo
    split
    · next t h =>
      obtain ⟨-, p, -, -, rfl⟩ := State.grantOne_some h
      rw [ih]; simp
    · rfl

@[simp] theorem State.grant_clock (s : State) : s.grant.clock = s.clock := State.grantUpTo_clock _ s
theorem State.grantUpTo_entries (n : Nat) (s : State) : (s.grantUpTo n).entries = s.entries := by
  induction n generalizing s with
  | zero => rfl
  | succ n ih =>
    unfold State.grantUpTo
    split
    · next t h =>
      obtain ⟨-, p, -, -, rfl⟩ := State.grantOne_some h
      rw [ih]; simp
    · rfl

@[simp] theorem State.grant_entries (s : State) : s.grant.entries = s.entries := State.grantUpTo_entries _ s
theorem State.grantUpTo_holdQueue (n : Nat) (s : State) : (s.grantUpTo n).holdQueue = s.holdQueue := by
  induction n generalizing s with
  | zero => rfl
  | succ n ih =>
    unfold State.grantUpTo
    split
    · next t h =>
      obtain ⟨-, p, -, -, rfl⟩ := State.grantOne_some h
      rw [ih]; simp
    · rfl

@[simp] theorem State.grant_holdQueue (s : State) : s.grant.holdQueue = s.holdQueue := State.grantUpTo_holdQueue _ s
theorem State.grantUpTo_startList (n : Nat) (s : State) : (s.grantUpTo n).startList = s.startList := by
  induction n generalizing s with
  | zero => rfl
  | succ n ih =>
    unfold State.grantUpTo
    split
    · next t h =>
      obtain ⟨-, p, -, -, rfl⟩ := State.grantOne_some h
      rw [ih]; simp
    · rfl

@[simp] theorem State.grant_startList (s : State) : s.grant.startList = s.startList := State.grantUpTo_startList _ s
theorem State.grantUpTo_lease (n : Nat) (s : State) : (s.grantUpTo n).lease = s.lease := by
  induction n generalizing s with
  | zero => rfl
  | succ n ih =>
    unfold State.grantUpTo
    split
    · next t h =>
      obtain ⟨-, p, -, -, rfl⟩ := State.grantOne_some h
      rw [ih]; simp
    · rfl

@[simp] theorem State.grant_lease (s : State) : s.grant.lease = s.lease := State.grantUpTo_lease _ s
theorem State.grantUpTo_warmPending (n : Nat) (s : State) : (s.grantUpTo n).warmPending = s.warmPending := by
  induction n generalizing s with
  | zero => rfl
  | succ n ih =>
    unfold State.grantUpTo
    split
    · next t h =>
      obtain ⟨-, p, -, -, rfl⟩ := State.grantOne_some h
      rw [ih]; simp
    · rfl

@[simp] theorem State.grant_warmPending (s : State) : s.grant.warmPending = s.warmPending := State.grantUpTo_warmPending _ s
theorem State.grantUpTo_bankA (n : Nat) (s : State) : (s.grantUpTo n).bankA = s.bankA := by
  induction n generalizing s with
  | zero => rfl
  | succ n ih =>
    unfold State.grantUpTo
    split
    · next t h =>
      obtain ⟨-, p, -, -, rfl⟩ := State.grantOne_some h
      rw [ih]; simp
    · rfl

@[simp] theorem State.grant_bankA (s : State) : s.grant.bankA = s.bankA := State.grantUpTo_bankA _ s
theorem State.grantUpTo_bankB (n : Nat) (s : State) : (s.grantUpTo n).bankB = s.bankB := by
  induction n generalizing s with
  | zero => rfl
  | succ n ih =>
    unfold State.grantUpTo
    split
    · next t h =>
      obtain ⟨-, p, -, -, rfl⟩ := State.grantOne_some h
      rw [ih]; simp
    · rfl

@[simp] theorem State.grant_bankB (s : State) : s.grant.bankB = s.bankB := State.grantUpTo_bankB _ s
theorem State.grantUpTo_active (n : Nat) (s : State) : (s.grantUpTo n).active = s.active := by
  induction n generalizing s with
  | zero => rfl
  | succ n ih =>
    unfold State.grantUpTo
    split
    · next t h =>
      obtain ⟨-, p, -, -, rfl⟩ := State.grantOne_some h
      rw [ih]; simp
    · rfl

@[simp] theorem State.grant_active (s : State) : s.grant.active = s.active := State.grantUpTo_active _ s
theorem State.grantUpTo_generation (n : Nat) (s : State) : (s.grantUpTo n).generation = s.generation := by
  induction n generalizing s with
  | zero => rfl
  | succ n ih =>
    unfold State.grantUpTo
    split
    · next t h =>
      obtain ⟨-, p, -, -, rfl⟩ := State.grantOne_some h
      rw [ih]; simp
    · rfl

@[simp] theorem State.grant_generation (s : State) : s.grant.generation = s.generation := State.grantUpTo_generation _ s
theorem State.grantUpTo_dirty (n : Nat) (s : State) : (s.grantUpTo n).dirty = s.dirty := by
  induction n generalizing s with
  | zero => rfl
  | succ n ih =>
    unfold State.grantUpTo
    split
    · next t h =>
      obtain ⟨-, p, -, -, rfl⟩ := State.grantOne_some h
      rw [ih]; simp
    · rfl

@[simp] theorem State.grant_dirty (s : State) : s.grant.dirty = s.dirty := State.grantUpTo_dirty _ s
theorem State.grantUpTo_resync (n : Nat) (s : State) : (s.grantUpTo n).resync = s.resync := by
  induction n generalizing s with
  | zero => rfl
  | succ n ih =>
    unfold State.grantUpTo
    split
    · next t h =>
      obtain ⟨-, p, -, -, rfl⟩ := State.grantOne_some h
      rw [ih]; simp
    · rfl

@[simp] theorem State.grant_resync (s : State) : s.grant.resync = s.resync := State.grantUpTo_resync _ s
theorem State.grantUpTo_alerts (n : Nat) (s : State) : (s.grantUpTo n).alerts = s.alerts := by
  induction n generalizing s with
  | zero => rfl
  | succ n ih =>
    unfold State.grantUpTo
    split
    · next t h =>
      obtain ⟨-, p, -, -, rfl⟩ := State.grantOne_some h
      rw [ih]; simp
    · rfl

@[simp] theorem State.grant_alerts (s : State) : s.grant.alerts = s.alerts := State.grantUpTo_alerts _ s
theorem State.grantUpTo_dropped (n : Nat) (s : State) : (s.grantUpTo n).dropped = s.dropped := by
  induction n generalizing s with
  | zero => rfl
  | succ n ih =>
    unfold State.grantUpTo
    split
    · next t h =>
      obtain ⟨-, p, -, -, rfl⟩ := State.grantOne_some h
      rw [ih]; simp
    · rfl

@[simp] theorem State.grant_dropped (s : State) : s.grant.dropped = s.dropped := State.grantUpTo_dropped _ s
theorem State.grantUpTo_batch (n : Nat) (s : State) : (s.grantUpTo n).batch = s.batch := by
  induction n generalizing s with
  | zero => rfl
  | succ n ih =>
    unfold State.grantUpTo
    split
    · next t h =>
      obtain ⟨-, p, -, -, rfl⟩ := State.grantOne_some h
      rw [ih]; simp
    · rfl

@[simp] theorem State.grant_batch (s : State) : s.grant.batch = s.batch := State.grantUpTo_batch _ s
theorem State.grantUpTo_sequence (n : Nat) (s : State) : (s.grantUpTo n).sequence = s.sequence := by
  induction n generalizing s with
  | zero => rfl
  | succ n ih =>
    unfold State.grantUpTo
    split
    · next t h =>
      obtain ⟨-, p, -, -, rfl⟩ := State.grantOne_some h
      rw [ih]; simp
    · rfl

@[simp] theorem State.grant_sequence (s : State) : s.grant.sequence = s.sequence := State.grantUpTo_sequence _ s
theorem State.grantUpTo_freeCount (n : Nat) (s : State) : (s.grantUpTo n).freeCount = s.freeCount := by
  induction n generalizing s with
  | zero => rfl
  | succ n ih =>
    unfold State.grantUpTo
    split
    · next t h =>
      obtain ⟨-, p, -, -, rfl⟩ := State.grantOne_some h
      rw [ih]; simp
    · rfl

@[simp] theorem State.grant_freeCount (s : State) : s.grant.freeCount = s.freeCount := State.grantUpTo_freeCount _ s
theorem State.grantUpTo_pending (n : Nat) (s : State) : (s.grantUpTo n).pending = s.pending := by
  induction n generalizing s with
  | zero => rfl
  | succ n ih =>
    unfold State.grantUpTo
    split
    · next t h =>
      obtain ⟨-, p, -, -, rfl⟩ := State.grantOne_some h
      rw [ih]; simp
    · rfl

@[simp] theorem State.grant_pending (s : State) : s.grant.pending = s.pending := State.grantUpTo_pending _ s

@[simp] theorem State.grant_entry (s : State) (i : EntryIndex) : s.grant.entry i = s.entry i := by simp [State.entry]

/-! ## Batch formation (R159) -/

@[simp] theorem State.formBatch_resetPin (s : State) : s.formBatch.resetPin = s.resetPin := by
  unfold State.formBatch; split <;> simp
@[simp] theorem State.formBatch_clock (s : State) : s.formBatch.clock = s.clock := by
  unfold State.formBatch; split <;> simp
@[simp] theorem State.formBatch_entries (s : State) : s.formBatch.entries = s.entries := by
  unfold State.formBatch; split <;> simp
@[simp] theorem State.formBatch_holdQueue (s : State) : s.formBatch.holdQueue = s.holdQueue := by
  unfold State.formBatch; split <;> simp
@[simp] theorem State.formBatch_startList (s : State) : s.formBatch.startList = s.startList := by
  unfold State.formBatch; split <;> simp
@[simp] theorem State.formBatch_lease (s : State) : s.formBatch.lease = s.lease := by
  unfold State.formBatch; split <;> simp
@[simp] theorem State.formBatch_warmPending (s : State) : s.formBatch.warmPending = s.warmPending := by
  unfold State.formBatch; split <;> simp
@[simp] theorem State.formBatch_bankA (s : State) : s.formBatch.bankA = s.bankA := by
  unfold State.formBatch; split <;> simp
@[simp] theorem State.formBatch_bankB (s : State) : s.formBatch.bankB = s.bankB := by
  unfold State.formBatch; split <;> simp
@[simp] theorem State.formBatch_active (s : State) : s.formBatch.active = s.active := by
  unfold State.formBatch; split <;> simp
@[simp] theorem State.formBatch_generation (s : State) : s.formBatch.generation = s.generation := by
  unfold State.formBatch; split <;> simp
@[simp] theorem State.formBatch_dirty (s : State) : s.formBatch.dirty = s.dirty := by
  unfold State.formBatch; split <;> simp
@[simp] theorem State.formBatch_resync (s : State) : s.formBatch.resync = s.resync := by
  unfold State.formBatch; split <;> simp
@[simp] theorem State.formBatch_alerts (s : State) : s.formBatch.alerts = s.alerts := by
  unfold State.formBatch; split <;> simp
@[simp] theorem State.formBatch_rotation (s : State) : s.formBatch.rotation = s.rotation := by
  unfold State.formBatch; split <;> simp
@[simp] theorem State.formBatch_freeCount (s : State) : s.formBatch.freeCount = s.freeCount := by
  unfold State.formBatch; split <;> simp
@[simp] theorem State.formBatch_pending (s : State) : s.formBatch.pending = s.pending := by
  unfold State.formBatch; split <;> simp
@[simp] theorem State.formBatch_entry (s : State) (i : EntryIndex) : s.formBatch.entry i = s.entry i := by simp [State.entry]

/-- A batch in flight stays as it is. -/
theorem State.formBatch_of_inFlight {s : State} (h : s.batch.isNone = false) : s.formBatch = s := by
  unfold State.formBatch; simp [h]

/-! ## settle -/

@[simp] theorem State.settle_resetPin (s : State) : s.settle.resetPin = s.resetPin := by
  simp [State.settle]
@[simp] theorem State.settle_clock (s : State) : s.settle.clock = s.clock := by
  simp [State.settle]
@[simp] theorem State.settle_entries (s : State) : s.settle.entries = s.entries := by
  simp [State.settle]
@[simp] theorem State.settle_holdQueue (s : State) : s.settle.holdQueue = s.holdQueue := by
  simp [State.settle]
@[simp] theorem State.settle_startList (s : State) : s.settle.startList = s.startList := by
  simp [State.settle]
@[simp] theorem State.settle_lease (s : State) : s.settle.lease = s.lease := by
  simp [State.settle]
@[simp] theorem State.settle_warmPending (s : State) : s.settle.warmPending = s.warmPending := by
  simp [State.settle]
@[simp] theorem State.settle_bankA (s : State) : s.settle.bankA = s.bankA := by
  simp [State.settle]
@[simp] theorem State.settle_bankB (s : State) : s.settle.bankB = s.bankB := by
  simp [State.settle]
@[simp] theorem State.settle_active (s : State) : s.settle.active = s.active := by
  simp [State.settle]
@[simp] theorem State.settle_generation (s : State) : s.settle.generation = s.generation := by
  simp [State.settle]
@[simp] theorem State.settle_dirty (s : State) : s.settle.dirty = s.dirty := by
  simp [State.settle]
@[simp] theorem State.settle_resync (s : State) : s.settle.resync = s.resync := by
  simp [State.settle]
@[simp] theorem State.settle_alerts (s : State) : s.settle.alerts = s.alerts := by
  simp [State.settle]
@[simp] theorem State.settle_freeCount (s : State) : s.settle.freeCount = s.freeCount := by
  simp [State.settle]
@[simp] theorem State.settle_pending (s : State) : s.settle.pending = s.pending := by
  simp [State.settle]
@[simp] theorem State.settle_entry (s : State) (i : EntryIndex) : s.settle.entry i = s.entry i := by simp [State.entry]

/-! ## Events -/

/-- An event that occurs, with the reset pin released, is followed by the grants and the batch. -/
theorem event_occurs {f : State → Option State} {s t : State} (hp : s.resetPin = false) (h : f s = some t) :
    event f s = .next t.settle := by simp [event, hp, h]

/-- An event that cannot occur changes nothing. -/
theorem event_absent {f : State → Option State} {s : State} (h : f s = none) : event f s = .next s := by
  unfold event; rw [h]; split <;> rfl

/-- While the reset pin is held low no event changes anything. -/
theorem event_held {f : State → Option State} {s : State} (hp : s.resetPin = true) : event f s = .next s := by
  simp [event, hp]

theorem plainEvent_occurs {f : State → Option State} {s t : State} (hp : s.resetPin = false) (h : f s = some t) :
    plainEvent f s = .next t := by simp [plainEvent, hp, h]

theorem plainEvent_absent {f : State → Option State} {s : State} (h : f s = none) : plainEvent f s = .next s := by
  unfold plainEvent; rw [h]; split <;> rfl

theorem plainEvent_held {f : State → Option State} {s : State} (hp : s.resetPin = true) : plainEvent f s = .next s := by
  simp [plainEvent, hp]

/-- What an event answers: the state as it was, or a state of the event, settled. -/
theorem event_cases (f : State → Option State) (s : State) :
    event f s = .next s ∨ ∃ t, s.resetPin = false ∧ f s = some t ∧ event f s = .next t.settle := by
  cases hp : s.resetPin
  · cases h : f s
    · exact .inl (event_absent h)
    · next t => exact .inr ⟨t, rfl, rfl, event_occurs hp h⟩
  · exact .inl (event_held hp)

/-- What a plain event answers. -/
theorem plainEvent_cases (f : State → Option State) (s : State) :
    plainEvent f s = .next s ∨ ∃ t, s.resetPin = false ∧ f s = some t ∧ plainEvent f s = .next t := by
  cases hp : s.resetPin
  · cases h : f s
    · exact .inl (plainEvent_absent h)
    · next t => exact .inr ⟨t, rfl, rfl, plainEvent_occurs hp h⟩
  · exact .inl (plainEvent_held hp)

/-! ## Taking an arrived frame -/

/-- The frame taken next came from the link's arrivals, and the state differs in that list alone. -/
theorem State.takeNext_some {s t : State} {c : Consumer} {p : Port} {f : List Byte} (h : s.takeNext c p = some (f, t)) :
    ∃ rest, firstFor c p (s.port p).arrived = some (f, rest) ∧ t = s.setPort p { s.port p with arrived := rest } := by
  unfold State.takeNext at h
  cases hf : firstFor c p (s.port p).arrived
  · rw [hf] at h; cases h
  · next q =>
    rw [hf] at h
    obtain ⟨g, rest⟩ := q
    simp only [Option.map_some, Option.some.injEq, Prod.mk.injEq] at h
    obtain ⟨rfl, rfl⟩ := h
    exact ⟨rest, rfl, rfl⟩

/-- A frame of the kind a command names. -/
theorem State.takeKind_some {s t : State} {p : Port} {k : Byte} {f : List Byte} (h : s.takeKind p k = some (f, t)) :
    byteAt f 0 = k ∧ s.takeNext .exchangeControl p = some (f, t) := by
  unfold State.takeKind at h
  split at h
  · next g u hg =>
    split at h
    · next hk =>
      simp only [Option.some.injEq, Prod.mk.injEq] at h
      obtain ⟨rfl, rfl⟩ := h
      exact ⟨hk, hg⟩
    · cases h
  · cases h

/-! ## step -/

/-- A command at the front of the queue runs on the state with the queue's rest. -/
theorem step_of_pending {s : State} {c : Instr} {rest : List Instr} (h : s.pending = c :: rest) :
    step s = exec c { s with pending := rest } := by
  unfold step; rw [h]

end Sys2Proof.Machine
end

