-- ==== Sys2Proof/Laws/Frames.lean ====
section
/-! SUPPORT. The frame vocabulary of Safety.lean (sameCore, posted, queuedOn, freed, endedWith, leaseEnded, onlyReplaced) for the shared operations. -/

namespace Sys2Proof.Machine

/-! ## One record of a table (R150) -/

theorem onlyReplaced_setIfInBounds {α : Type} {n : Nat} (v : Vector α n) (k : Fin n) (r : α) : onlyReplaced v (v.setIfInBounds k.val r) k r := by
  refine ⟨by simp [Vector.get_eq_getElem], fun j hj => ?_⟩
  have h : k.val ≠ j.val := fun w => hj (Fin.ext w.symm)
  simp [Vector.get_eq_getElem, h]

/-! ## Sameness is reflexive -/

theorem State.samePolicy_refl (s : State) : s.samePolicy s := ⟨rfl, rfl, rfl, rfl, rfl, rfl⟩
theorem State.sameCore_refl (s : State) : s.sameCore s :=
  ⟨rfl, rfl, s.samePolicy_refl, rfl, rfl, rfl, rfl, rfl, rfl, rfl⟩
theorem State.sameLists_refl (s : State) : s.sameLists s := ⟨rfl, rfl⟩
theorem State.sameEntries_refl (s : State) : s.sameEntries s := fun _ => rfl
theorem State.sameAlerts_refl (s : State) : s.sameAlerts s := ⟨rfl, rfl⟩

/-! ## post (R158) -/

theorem State.post_alerts (s : State) (a : Alert) :
    (s.post a).alerts = if s.alerts.length < 32 then s.alerts ++ [a] else s.alerts := by
  unfold State.post Config.alertRecords; split <;> rfl

theorem State.post_dropped (s : State) (a : Alert) :
    (s.post a).dropped = if s.alerts.length < 32 then s.dropped else min 65535 (s.dropped + 1) := by
  unfold State.post Config.alertRecords Config.droppedMax; split <;> rfl

/-- One alert has been posted, whatever else has changed, when the two fields are those that post leaves. -/
theorem State.posted_of {s t : State} {a : Alert} (h1 : t.alerts = (s.post a).alerts) (h2 : t.dropped = (s.post a).dropped) :
    s.posted t a := by
  unfold State.posted; rw [h1, h2, State.post_alerts, State.post_dropped]
  split <;> simp

theorem State.posted_post (s : State) (a : Alert) : s.posted (s.post a) a := State.posted_of rfl rfl

/-! ## enqueue (R120, R126) -/

theorem State.isUp_iff (s : State) (p : Port) : s.isUp p = true ↔ (s.port p).state = .up := by simp [State.isUp]

theorem State.enqueue_queuedOn (s : State) (p : Port) (d : Descriptor) : s.queuedOn (s.enqueue p d) p [d] := by
  constructor
  · rw [State.enqueue_port]
    unfold PortRecord.queued
    split <;> simp_all [State.isUp]
  · intro q hq; rw [State.enqueue_port]; simp [hq]

theorem State.enqueue_freeCells (s : State) (p : Port) (d : Descriptor) :
    (s.enqueue p d).freeCells = s.freeCells + (if (s.port p).state = .up then 0 else d.cells) := by
  unfold State.enqueue State.isUp
  split <;> split <;> simp_all [State.release]

/-! ## Entries -/

theorem State.setExchange_entry (s : State) (i j : EntryIndex) (x : Exchange) :
    (s.setExchange i x).entry j = if j = i then { s.entry i with exchange := some x } else s.entry j := by
  split
  · next h => subst h; exact State.setExchange_entry_self ..
  · next h => exact State.setExchange_entry_ne _ _ h

theorem State.freeEntry_entry (s : State) (i j : EntryIndex) :
    (s.freeEntry i).entry j = if j = i then { s.entry i with exchange := none } else s.entry j := by
  split
  · next h => subst h; exact State.freeEntry_entry_self ..
  · next h => exact State.freeEntry_entry_ne _ h

theorem State.freeEntry_holdQueue (s : State) (i : EntryIndex) :
    (s.freeEntry i).holdQueue
      = if (s.entry i).exchange = none then s.holdQueue else s.holdQueue.filter fun h => h.entry.index ≠ i := by
  unfold State.freeEntry
  split <;> simp_all

/-- Freeing an entry in use (R19). -/
theorem State.freeEntry_freed {s : State} {i : EntryIndex} {x : Exchange} (h : (s.entry i).exchange = some x) :
    s.freed (s.freeEntry i) i := by
  refine ⟨State.freeEntry_entry_self .., fun j hj => State.freeEntry_entry_ne _ hj, ?_, State.freeEntry_startList ..⟩
  unfold State.placeGone; rw [State.freeEntry_holdQueue]; simp [h]

/-! ## How an exchange ends (R17, R19, R70, R78) -/

/-- What these operations leave of the state is its core. -/
theorem State.enqueue_sameCore (s : State) (p : Port) (d : Descriptor) : s.sameCore (s.enqueue p d) := by
  refine ⟨?_, ?_, ⟨?_, ?_, ?_, ?_, ?_, ?_⟩, ?_, ?_, ?_, ?_, ?_, ?_, ?_⟩ <;> simp

theorem State.freeEntry_sameCore (s : State) (i : EntryIndex) : s.sameCore (s.freeEntry i) := by
  refine ⟨?_, ?_, ⟨?_, ?_, ?_, ?_, ?_, ?_⟩, ?_, ?_, ?_, ?_, ?_, ?_, ?_⟩ <;> simp

theorem State.withdraw_sameCore (s : State) (p : Port) (g : Descriptor → Bool) : s.sameCore (s.withdraw p g) := by
  refine ⟨?_, ?_, ⟨?_, ?_, ?_, ?_, ?_, ?_⟩, ?_, ?_, ?_, ?_, ?_, ?_, ?_⟩ <;> simp

theorem State.setExchange_sameCore (s : State) (i : EntryIndex) (x : Exchange) : s.sameCore (s.setExchange i x) := by
  refine ⟨?_, ?_, ⟨?_, ?_, ?_, ?_, ?_, ?_⟩, ?_, ?_, ?_, ?_, ?_, ?_, ?_⟩ <;> simp

theorem State.sameCore.trans {s t u : State} (h : s.sameCore t) (k : t.sameCore u) : s.sameCore u := by
  obtain ⟨a1, a2, ⟨a3, a4, a5, a6, a7, a8⟩, a9, b1, b2, b3, b4, b5, b6⟩ := h
  obtain ⟨c1, c2, ⟨c3, c4, c5, c6, c7, c8⟩, c9, d1, d2, d3, d4, d5, d6⟩ := k
  exact ⟨c1.trans a1, c2.trans a2, ⟨c3.trans a3, c4.trans a4, c5.trans a5, c6.trans a6, c7.trans a7, c8.trans a8⟩, c9.trans a9,
    d1.trans b1, d2.trans b2, d3.trans b3, d4.trans b4, d5.trans b5, d6.trans b6⟩

/-- The target whose exchange awaits it is the one that targetActive names. -/
theorem Exchange.targetActive_eq (x : Exchange) (g : Routing) :
    x.targetActive = some g ↔ x.routing = some g ∧ x.awaitsTarget := by
  unfold Exchange.targetActive Exchange.awaitsTarget
  cases h : x.routing with
  | none => simp
  | some k =>
    simp only [Option.any_some, Bool.and_eq_true, Option.isNone_iff_eq_none, Option.some.injEq]
    split
    · next c => exact ⟨fun e => ⟨Option.some.inj e, c⟩, fun e => by rw [e.1]⟩
    · next c => exact ⟨nofun, fun e => absurd e.2 c⟩

theorem Exchange.targetActive_none (x : Exchange) : x.targetActive = none ↔ ¬x.awaitsTarget := by
  constructor
  · intro h w
    obtain ⟨g, hg, -⟩ := Option.any_eq_true _ _ |>.1 w.1
    exact absurd ((x.targetActive_eq g).2 ⟨hg, w⟩) (by rw [h]; nofun)
  · intro h
    cases e : x.targetActive with
    | none => rfl
    | some g => exact absurd ((x.targetActive_eq g).1 e).2 h

/-- A bridge-made frame joins one port's queue and holds no cell. -/
theorem State.enqueue_made_freeCells (s : State) (p : Port) (f : Frame) (r : Option EntryRef) (w : Bool) :
    (s.enqueue p { content := .made f, entry := r, warmMark := w }).freeCells = s.freeCells := by
  rw [State.enqueue_freeCells]; split <;> rfl

/-- Closing with a STATUS and freeing: one descriptor on port I, the entry FREE, its cells back. -/
theorem State.closeAndFree_queuedOn (s : State) (i : EntryIndex) (x : Exchange) (code : Byte) :
    s.queuedOn (s.closeAndFree i x code) .i [bridgeStatus (s.refOf i) x code] := by
  obtain ⟨h, k⟩ := s.enqueue_queuedOn .i (bridgeStatus (s.refOf i) x code)
  exact ⟨(State.freeEntry_port ..).trans h, fun q hq => (State.freeEntry_port ..).trans (k q hq)⟩

theorem State.closeAndFree_freed {s : State} {i : EntryIndex} {x : Exchange} (code : Byte) (h : (s.entry i).exchange = some x) :
    s.freed (s.closeAndFree i x code) i := by
  have e : ∀ j, (s.queueStatus i x code).entry j = s.entry j := fun j => State.enqueue_entry ..
  obtain ⟨a, b, c, d⟩ := State.freeEntry_freed (s := s.queueStatus i x code) ((congrArg Entry.exchange (e i)).trans h)
  exact ⟨a.trans (by rw [e]), fun j hj => (b j hj).trans (e j), c.trans (by rw [State.queueStatus, State.enqueue_holdQueue]),
    d.trans (State.enqueue_startList ..)⟩

theorem State.closeAndFree_sameCore (s : State) (i : EntryIndex) (x : Exchange) (code : Byte) : s.sameCore (s.closeAndFree i x code) :=
  (s.enqueue_sameCore ..).trans (State.freeEntry_sameCore ..)

theorem State.closeAndFree_freeCells {s : State} {i : EntryIndex} {x : Exchange} (code : Byte) (h : (s.entry i).exchange = some x) :
    (s.closeAndFree i x code).freeCells = s.freeCells + x.ownCells := by
  unfold State.closeAndFree State.queueStatus State.ofEntry
  rw [State.freeEntry_freeCells, State.enqueue_made_freeCells, State.enqueue_entry]
  simp [Entry.cells, h]

/-- Leaving unseen: only the REQUEST's descriptor and its cells are gone. -/
theorem State.withdrawUnseen_entry (s : State) (i j : EntryIndex) (x : Exchange) : (s.withdrawUnseen i x).entry j = s.entry j := by
  unfold State.withdrawUnseen State.withdrawRequest; split <;> simp

theorem State.withdrawUnseen_holdQueue (s : State) (i : EntryIndex) (x : Exchange) : (s.withdrawUnseen i x).holdQueue = s.holdQueue := by
  unfold State.withdrawUnseen State.withdrawRequest; split <;> simp

theorem State.withdrawUnseen_startList (s : State) (i : EntryIndex) (x : Exchange) : (s.withdrawUnseen i x).startList = s.startList := by
  unfold State.withdrawUnseen State.withdrawRequest; split <;> simp

theorem State.withdrawUnseen_sameCore (s : State) (i : EntryIndex) (x : Exchange) : s.sameCore (s.withdrawUnseen i x) := by
  unfold State.withdrawUnseen State.withdrawRequest
  split
  · exact s.withdraw_sameCore ..
  · exact s.sameCore_refl

theorem State.withdrawUnseen_freeCells (s : State) (i : EntryIndex) (x : Exchange) :
    (s.withdrawUnseen i x).freeCells + x.ownCells = s.freeCells + s.unseenCells i x := by
  unfold State.withdrawUnseen State.withdrawRequest State.unseenCells
  cases x.routing with
  | none => simp
  | some g => simp only [State.withdraw_freeCells, Descriptor.requestOf]; omega

theorem State.withdrawUnseen_port (s : State) (i : EntryIndex) (x : Exchange) :
    (s.withdrawUnseen i x).port .i = s.port .i
      ∧ ∀ q, (s.withdrawUnseen i x).port (targetPort q) =
          if x.routing.any (fun g => g.link == q) then
            { s.port (targetPort q) with egress := (s.port (targetPort q)).egress.filter fun d => !d.requestOf (s.refOf i) }
          else s.port (targetPort q) := by
  unfold State.withdrawUnseen State.withdrawRequest
  cases h : x.routing with
  | none => simp
  | some g =>
    refine ⟨?_, fun q => ?_⟩
    · rw [State.withdraw_port]; cases g.link <;> simp [targetPort]
    · rw [State.withdraw_port]
      cases hg : g.link <;> cases q <;> simp [targetPort, hg, Descriptor.requestOf]

/-- What endWithStatus leaves, in the words of the rules (R70, R71, R78, R79, R90). -/
theorem State.endWithStatus_endedWith {s : State} {i : EntryIndex} {x : Exchange} (h : (s.entry i).exchange = some x) (code : Byte)
    (o : AbortOrigin) : s.endedWith (s.endWithStatus i x code o) i x o code 0 := by
  refine ⟨fun g hg hw => ?_, fun hw => ?_⟩
  · have e : s.endWithStatus i x code o = (s.enterAborting i x g o true).queueStatus i x code := by
      unfold State.endWithStatus; rw [(x.targetActive_eq g).2 ⟨hg, hw⟩]
    rw [e]
    unfold State.enterAborting State.queueStatus State.ofEntry
    have hr : ∀ (p : Port) (d : Descriptor) (y : Exchange), ((s.setExchange i y).enqueue p d).refOf i = s.refOf i := by
      intro p d y; simp [State.refOf]
    rw [hr]
    refine ⟨?_, ?_, ?_, ?_, ?_, ?_, ?_, ?_⟩
    · rw [State.enqueue_entry, State.enqueue_entry, State.setExchange_entry, if_pos rfl]; rfl
    · intro j hj; rw [State.enqueue_entry, State.enqueue_entry, State.setExchange_entry, if_neg hj]
    · constructor <;> simp
    · exact ((s.setExchange_sameCore ..).trans (State.enqueue_sameCore ..)).trans (State.enqueue_sameCore ..)
    · rw [State.enqueue_made_freeCells, State.enqueue_made_freeCells]; simp
    · rw [(State.enqueue_queuedOn ..).1, (State.enqueue_queuedOn ..).2 .i (by cases g.link <;> nofun)]; simp; rfl
    · rw [(State.enqueue_queuedOn _ .i _).2 _ (by cases g.link <;> nofun), (State.enqueue_queuedOn ..).1]; simp; rfl
    · intro q h1 h2; rw [(State.enqueue_queuedOn _ .i _).2 q h1, (State.enqueue_queuedOn ..).2 q h2]; simp
  · have e : s.endWithStatus i x code o = (s.withdrawUnseen i x).closeAndFree i x code := by
      unfold State.endWithStatus; rw [x.targetActive_none.2 hw]
    rw [e]
    have hx : ((s.withdrawUnseen i x).entry i).exchange = some x := by rw [State.withdrawUnseen_entry]; exact h
    have hr : (s.withdrawUnseen i x).refOf i = s.refOf i := by simp [State.refOf, State.withdrawUnseen_entry]
    obtain ⟨a, b, c, d⟩ := State.closeAndFree_freed code hx
    obtain ⟨k1, k2⟩ := (s.withdrawUnseen i x).closeAndFree_queuedOn i x code
    obtain ⟨p1, p2⟩ := s.withdrawUnseen_port i x
    rw [hr, p1] at k1
    refine ⟨⟨a.trans (by rw [State.withdrawUnseen_entry]), fun j hj => (b j hj).trans (State.withdrawUnseen_entry ..),
      c.trans (by rw [State.withdrawUnseen_holdQueue]), d.trans (State.withdrawUnseen_startList ..)⟩,
      (s.withdrawUnseen_sameCore ..).trans (State.closeAndFree_sameCore ..), ⟨k1, fun q => ?_⟩, ?_⟩
    · rw [k2 (targetPort q) (by cases q <;> nofun)]; exact p2 q
    · rw [State.closeAndFree_freeCells code hx, State.withdrawUnseen_freeCells]; rfl

/-! ## The end of a lease (R142, R162) -/

/-- An ALERT descriptor holds no cell. -/
theorem queueCells_alerts (ds : List Descriptor) : queueCells (ds.filter Descriptor.isAlert) = 0 := by
  unfold queueCells
  rw [List.sum_eq_zero_iff]
  intro n hn
  obtain ⟨d, hd, rfl⟩ := List.mem_map.1 hn
  have := (List.mem_filter.1 hd).2
  simp only [Descriptor.isAlert, beq_iff_eq] at this
  simp [Descriptor.cells, this]

theorem State.endLease_leaseEnded {s : State} {l : Lease} (h : s.lease = some l) (why : LeaseEnd) : s.leaseEnded (s.endLease why) l why := by
  refine ⟨(s.endLease why).alerts, (s.endLease why).dropped, ?_, ?_⟩
  · unfold State.endLease State.post
    rw [h]
    simp only [State.withdraw, State.release, queueCells_alerts, State.setPort, State.port]
    split <;> rfl
  · refine State.posted_of ?_ ?_ <;> unfold State.endLease <;> rw [h]
    · simp only [State.post_alerts]; rfl
    · simp only [State.post_dropped]; rfl

/-! ## Discarded frames (R8, R16, R112) -/

theorem State.discard_onlyDiscards (s : State) (f : List Byte) : s.onlyDiscards (s.discard f) f :=
  ⟨fun q => by cases q <;> rfl, fun _ => rfl, ⟨rfl, rfl⟩, ⟨rfl, rfl, ⟨rfl, rfl, rfl, rfl, rfl, rfl⟩, rfl, rfl, rfl, rfl, rfl, rfl, rfl⟩, rfl⟩

theorem State.post_onlyDiscards {s t : State} {f : List Byte} (h : s.onlyDiscards t f) (a : Alert) : s.onlyDiscards (t.post a) f := by
  obtain ⟨h1, h2, h3, h4, h5⟩ := h
  have e : t.sameCore (t.post a) ∧ (∀ q, (t.post a).port q = t.port q) ∧ (∀ j, (t.post a).entry j = t.entry j)
      ∧ (t.post a).holdQueue = t.holdQueue ∧ (t.post a).startList = t.startList ∧ (t.post a).freeCells = t.freeCells := by
    unfold State.post
    split <;> exact ⟨⟨rfl, rfl, ⟨rfl, rfl, rfl, rfl, rfl, rfl⟩, rfl, rfl, rfl, rfl, rfl, rfl, rfl⟩, fun q => by cases q <;> rfl, fun _ => rfl,
      rfl, rfl, rfl⟩
  exact ⟨fun q => (e.2.1 q).trans (h1 q), fun j => (e.2.2.1 j).trans (h2 j), ⟨e.2.2.2.1.trans h3.1, e.2.2.2.2.1.trans h3.2⟩, h4.trans e.1,
    e.2.2.2.2.2.trans h5⟩

/-! ## Expired holds (R95, R103) -/

theorem State.expired_hold (s : State) (i : EntryIndex) (x : Exchange) :
    s.expired i .hold = some x ↔ (s.entry i).exchange = some x
      ∧ (x.deadline.any fun d => d.kind == .hold && reached s.clock d.due) = true := by
  unfold State.expired
  cases h : (s.entry i).exchange with
  | none => simp
  | some y =>
    simp only [Option.some.injEq]
    cases k : y.deadline with
    | none =>
      constructor
      · nofun
      · rintro ⟨rfl, w⟩; rw [k] at w; cases w
    | some d =>
      by_cases c : d.kind = .hold ∧ reached s.clock d.due = true
      · simp only [c, and_self, if_true, Option.some.injEq]
        constructor
        · rintro rfl; exact ⟨rfl, by simp [k, c]⟩
        · exact And.left
      · simp only [c, if_false]
        constructor
        · nofun
        · rintro ⟨rfl, w⟩; simp only [k, Option.any_some, Bool.and_eq_true, beq_iff_eq] at w; exact absurd w c

theorem State.expireHolds_nil (s : State) : s.expireHolds [] = s := rfl

/-- While no deadline of a place is reached, nothing expires. -/
theorem State.expireHolds_of_none {s : State} {hs : List HoldPlace} (h : ∀ k ∈ hs, s.expired k.entry.index .hold = none) :
    s.expireHolds hs = s := by
  induction hs with
  | nil => rfl
  | cons k hs ih =>
    unfold State.expireHolds
    rw [h k (List.mem_cons_self ..)]
    exact ih fun j hj => h j (List.mem_cons_of_mem _ hj)

/-! ## The first index of a table -/

/-- find? over all indexes answers k when k has the property and no lower index has it. -/
theorem find?_finRange {n : Nat} {p : Fin n → Bool} {k : Fin n} (h : p k = true) (lower : ∀ j, j < k → p j = false) :
    (List.finRange n).find? p = some k := by
  rw [List.find?_eq_some_iff_getElem]
  refine ⟨h, k.val, by simp, by simp, fun j hj => ?_⟩
  simpa using lower ⟨j, by omega⟩ hj

end Sys2Proof.Machine
end

