-- ==== Sys2Proof/Laws/PerInstr.lean ====
section
/-! SUPPORT. The family FrameKindAlone: what can make a command ill formed. -/

namespace Sys2Proof

/-- The frame operand of a command that has one. -/
def Instr.frame? : Instr → Option (List Byte)
  | .initArrival _ f => some f
  | .peerRestart _ f => some f
  | .creditArrival _ f => some f
  | .creditedFrameArrival _ f => some f
  | _ => none

end Sys2Proof

namespace Sys2Proof.Laws.FrameKindAlone

/-- A command is ill formed only by the kind code of its frame operand. -/
def Statement (i : Instr) : Prop := i.wellFormed = false → i.frame?.isSome = true

theorem powerOnReset : Statement .powerOnReset := fun h => Bool.noConfusion h
theorem signalPresent (p : Port) : Statement (.signalPresent p) := fun h => Bool.noConfusion h
theorem laneLock (p : Port) : Statement (.laneLock p) := fun h => Bool.noConfusion h
theorem signalLoss (p : Port) : Statement (.signalLoss p) := fun h => Bool.noConfusion h
theorem initWaitExpiry (p : Port) : Statement (.initWaitExpiry p) := fun h => Bool.noConfusion h
theorem initArrival (p : Port) (frame : List Byte) : Statement (.initArrival p frame) := fun _ => rfl
theorem peerRestart (p : Port) (frame : List Byte) : Statement (.peerRestart p frame) := fun _ => rfl
theorem creditArrival (p : Port) (frame : List Byte) : Statement (.creditArrival p frame) := fun _ => rfl
theorem creditedFrameArrival (p : Port) (frame : List Byte) : Statement (.creditedFrameArrival p frame) := fun _ => rfl
theorem creditSend (p : Port) : Statement (.creditSend p) := fun h => Bool.noConfusion h
theorem unknownKindDiscard (p : Port) : Statement (.unknownKindDiscard p) := fun h => Bool.noConfusion h
theorem wrongLinkFrame (p : Port) : Statement (.wrongLinkFrame p) := fun h => Bool.noConfusion h
theorem verdict : Statement .verdict := fun h => Bool.noConfusion h
theorem targetProceed (t : Target) : Statement (.targetProceed t) := fun h => Bool.noConfusion h
theorem targetData (t : Target) : Statement (.targetData t) := fun h => Bool.noConfusion h
theorem targetStatus (t : Target) : Statement (.targetStatus t) := fun h => Bool.noConfusion h
theorem targetAbortDone (t : Target) : Statement (.targetAbortDone t) := fun h => Bool.noConfusion h
theorem initiatorData : Statement .initiatorData := fun h => Bool.noConfusion h
theorem initiatorAbort : Statement .initiatorAbort := fun h => Bool.noConfusion h
theorem exchangeDeadlineExpiry (e : EntryIndex) : Statement (.exchangeDeadlineExpiry e) := fun h => Bool.noConfusion h
theorem graceExpiry (e : EntryIndex) : Statement (.graceExpiry e) := fun h => Bool.noConfusion h
theorem holdExpiry (e : EntryIndex) : Statement (.holdExpiry e) := fun h => Bool.noConfusion h
theorem bodyDeadlineExpiry (e : EntryIndex) : Statement (.bodyDeadlineExpiry e) := fun h => Bool.noConfusion h
theorem leaseExpiry : Statement .leaseExpiry := fun h => Bool.noConfusion h
theorem resendDeadlineExpiry : Statement .resendDeadlineExpiry := fun h => Bool.noConfusion h
theorem resyncCompletion : Statement .resyncCompletion := fun h => Bool.noConfusion h
theorem replyServiceStart : Statement .replyServiceStart := fun h => Bool.noConfusion h
theorem transmission (p : Port) : Statement (.transmission p) := fun h => Bool.noConfusion h
theorem headDiscard (p : Port) : Statement (.headDiscard p) := fun h => Bool.noConfusion h
theorem identify (w : PerformedAt) : Statement (.identify w) := fun h => Bool.noConfusion h
theorem claim (w : PerformedAt) : Statement (.claim w) := fun h => Bool.noConfusion h
theorem renew (w : PerformedAt) : Statement (.renew w) := fun h => Bool.noConfusion h
theorem releaseLease (w : PerformedAt) : Statement (.releaseLease w) := fun h => Bool.noConfusion h
theorem readEntry (w : PerformedAt) : Statement (.readEntry w) := fun h => Bool.noConfusion h
theorem writeEntry (w : PerformedAt) : Statement (.writeEntry w) := fun h => Bool.noConfusion h
theorem clearStaging (w : PerformedAt) : Statement (.clearStaging w) := fun h => Bool.noConfusion h
theorem commit (w : PerformedAt) : Statement (.commit w) := fun h => Bool.noConfusion h
theorem readExchange (w : PerformedAt) : Statement (.readExchange w) := fun h => Bool.noConfusion h
theorem holdList (w : PerformedAt) : Statement (.holdList w) := fun h => Bool.noConfusion h
theorem holdDecide (w : PerformedAt) : Statement (.holdDecide w) := fun h => Bool.noConfusion h
theorem alertAck (w : PerformedAt) : Statement (.alertAck w) := fun h => Bool.noConfusion h
theorem endExchange (w : PerformedAt) : Statement (.endExchange w) := fun h => Bool.noConfusion h
theorem linkState (w : PerformedAt) : Statement (.linkState w) := fun h => Bool.noConfusion h
theorem warmReset (w : PerformedAt) : Statement (.warmReset w) := fun h => Bool.noConfusion h
theorem millisecondClockAdvance : Statement .millisecondClockAdvance := fun h => Bool.noConfusion h
theorem resetPinAssertion : Statement .resetPinAssertion := fun h => Bool.noConfusion h

end Sys2Proof.Laws.FrameKindAlone
end

