-- ==== Sys2Proof/Tests/Slice0.lean ====
section
/-! SUPPORT. Tests: ill-formed commands, one small step per command on values of the spec's worked examples, and the witnesses that no
statement of Obligations.lean has empty hypotheses. -/

namespace Sys2Proof.Tests

open Sys2Proof Sys2Proof.Machine

/-! ## Ill-formed commands (WellFormed.lean) -/

theorem test_initArrival_needs_init : (Instr.initArrival .i [0x07#8, 0#8, 0#8, 0#8, 1#8, 8#8, 4#8, 1#8]).wellFormed = false := by decide
theorem test_peerRestart_needs_init : (Instr.peerRestart .t0 []).wellFormed = false := by decide
theorem test_creditArrival_needs_credit : (Instr.creditArrival .t1 [0x08#8, 0#8, 0#8, 0#8, 1#8, 0#8, 0#8, 0#8]).wellFormed = false := by decide
theorem test_creditedFrame_is_no_credit : (Instr.creditedFrameArrival .i [0x07#8, 0#8, 0#8, 0#8]).wellFormed = false := by decide
theorem test_creditedFrame_is_no_init : (Instr.creditedFrameArrival .i [0x08#8, 0#8, 0#8, 0#8]).wellFormed = false := by decide
theorem test_creditedFrame_may_be_empty : (Instr.creditedFrameArrival .i []).wellFormed = true := by decide

/-! ## States for the tests -/

/-- An initiator of the worked examples of chapter 2. -/
def reader : InitiatorRecord := { dataRight := true, mgmtRight := true, quota := 4, leaseTime := 30 }

/-- View 0 of the worked example of chapter 2. -/
def viewZero : View :=
  { mask := 0x0004#16, virtualUnit := 0x01#8, linkCode := 0#8, unit := 0x10#8, base := 0, extent := 1000000, blockSizeCode := 0#8,
    readRight := true, writeRight := false, controlRight := false, holdMode := .noHold, holdWait := 30, timeout := 50, alertOnDeny := true }

/-- View 1: the same window, with WRITE, holding writes. -/
def viewOne : View := { viewZero with mask := 0x000E#16, writeRight := true, holdMode := .holdWrites }

/-- View 3: T1 unit 20h. -/
def viewThree : View :=
  { viewZero with mask := 0x0002#16, virtualUnit := 0x02#8, linkCode := 1#8, unit := 0x20#8, base := 500000, extent := 250000,
                  blockSizeCode := 1#8, writeRight := true, controlRight := true }

/-- Reply 1: T0, unit 10h, ANY. -/
def replyOne : ReplyRecord := { linkCode := 0#8, unit := 0x10#8, opcode := 0x40#8, selector := none, code := 0#8, data := List.replicate 8 5#8 }

/-- Reply 0: selector 00h, no data. -/
def replyZero : ReplyRecord := { replyOne with selector := some 0#8, code := 1#8, data := [] }

/-- The bank of the worked example "matching views and reply records". -/
def exampleBank : Bank where
  initiators := ((Bank.cleared.initiators.set 1 (some reader)).set 2 (some reader)).set 3 (some reader)
  views := ((Bank.cleared.views.set 0 (some viewZero)).set 1 (some viewOne)).set 3 (some viewThree)
  classes := (((Bank.cleared.classes.set 0x30 .readBlocks).set 0x31 .writeBlocks).set 0x40 .query).set 0x5A .forbidden
  replies := (Bank.cleared.replies.set 0 (some replyZero)).set 1 (some replyOne)

/-- A port in UP at its ingress credit limit. -/
def upPort (limit : Nat) : PortRecord := { state := .up, peerSegment := some 512, peerCredit := 10, announced := limit }

/-- The three links UP, the example bank active, clock 1000. -/
def base : State :=
  { State.reset with clock := 1000#32, portI := upPort 32, portT0 := upPort 16, portT1 := upPort 16, bankA := exampleBank, freeCells := 1472 }

/-- A frame waits on a port. -/
def arrive (s : State) (p : Port) (f : List Byte) : State := s.setPort p { s.port p with arrived := [f] }

/-- An entry in use at incarnation 1. -/
def inUse (s : State) (i : EntryIndex) (x : Exchange) : State := s.setEntry i { inc := 1, exchange := some x }

/-- A descriptor at the head of a queue. -/
def queueing (s : State) (p : Port) (ds : List Descriptor) : State := s.setPort p { s.port p with egress := ds }

/-- What holds of the next state. -/
def leaves (o : Host.Outcome State Fault Refusal) (P : State → Bool) : Bool :=
  match o with
  | .next t => P t
  | _ => false

/-- Exchange control's read of chapter 1's worked example: initiator 3, tag 0A10h, 4096 bytes from T0, command sent, 512 bytes moved. -/
def readExchange : Exchange :=
  { state := .moving, kind := .data, initiator := 3, tag := 0x0A10#16, opcode := 0x30#8, direction := .dirIn, length := 4096, moved := 512,
    view := some 1, routing := some { link := .t0, unit := 0x10#8, block := 0, commandSent := true },
    deadline := some { kind := .exchange, due := 1000#32 } }

/-- The write of chapter 4's worked example, after its first PROCEED. -/
def writeExchange : Exchange :=
  { state := .moving, kind := .data, initiator := 1, tag := 0x0500#16, opcode := 0x31#8, direction := .dirOut, length := 1536,
    proceeded := some 1024, view := some 1, routing := some { link := .t0, unit := 0x10#8, block := 0, commandSent := true } }

/-- Its command has not been sent. -/
def unsentExchange : Exchange :=
  { readExchange with state := .issued, moved := 0, routing := some { link := .t0, unit := 0x10#8, block := 0, commandSent := false },
                      storedRequest := some .inQueue }

/-- Request a of chapter 2's worked example, byte by byte (13.1): initiator 1, unit 01h, opcode 30h, IN, 4096 bytes, block 100, count 8. -/
def requestA : List Byte :=
  [0x01#8, 0x10#8, 0x0A#8, 0x10#8, 0x01#8, 0x30#8, 0x01#8, 0x00#8, 0x00#8, 0x10#8, 0x00#8, 0x00#8,
   0x00#8, 0x00#8, 0x00#8, 0x00#8, 0x64#8, 0x00#8, 0x08#8, 0x00#8]

/-- Request h: a write of one block, which view 1 holds. -/
def requestH : List Byte :=
  [0x01#8, 0x10#8, 0x0A#8, 0x11#8, 0x01#8, 0x31#8, 0x02#8, 0x00#8, 0x00#8, 0x02#8, 0x00#8, 0x00#8,
   0x00#8, 0x00#8, 0x00#8, 0x00#8, 0x00#8, 0x00#8, 0x01#8, 0x00#8]

/-- Query q3: no parameter block; reply 1 answers. -/
def queryThree : List Byte :=
  [0x01#8, 0x10#8, 0x0A#8, 0x12#8, 0x01#8, 0x40#8, 0x01#8, 0x00#8, 0x00#8, 0x00#8, 0x10#8, 0x00#8,
   0x00#8, 0x00#8, 0x00#8, 0x00#8, 0x00#8, 0x00#8, 0x00#8, 0x00#8]

/-- Request i: the forbidden opcode 5Ah. -/
def requestI : List Byte :=
  [0x01#8, 0x10#8, 0x0A#8, 0x13#8, 0x01#8, 0x5A#8, 0x00#8, 0x00#8, 0x00#8, 0x00#8, 0x00#8, 0x00#8,
   0x00#8, 0x00#8, 0x00#8, 0x00#8, 0x00#8, 0x00#8, 0x00#8, 0x00#8]

/-- A management REQUEST of initiator 1 with a parameter block of four bytes and an answer of up to 400 bytes. -/
def ask (a b c d : Byte) : List Byte :=
  [0x01#8, 0x10#8, 0x0B#8, 0x00#8, 0xFF#8, 0x00#8, 0x01#8, 0x04#8, 0x00#8, 0x01#8, 0x90#8, 0x00#8,
   0x00#8, 0x00#8, 0x00#8, 0x00#8, 0x00#8, 0x00#8, 0x00#8, 0x00#8, a, b, c, d]

/-- That REQUEST waits for its verdict; initiator 1 owns the lease. -/
def asking (a b c d : Byte) : State :=
  { arrive base .i (ask a b c d) with lease := some { owner := 1, deadline := 31000#32 } }

/-- A target's frame of one kind with downstream tag 0040h, entry 0 at incarnation 1. -/
def targetFrame (k : Byte) (body : List Byte) : List Byte := [k, 0x00#8, 0x00#8, 0x40#8] ++ body

/-- DATA of 4 bytes at offset 512 (02h 00h). -/
def dataFrom512 : List Byte := [0x00#8, 0x02#8, 0x00#8, 0x00#8, 0x00#8, 0x04#8, 0x00#8, 0x00#8, 1#8, 2#8, 3#8, 4#8]

/-- STATUS 00h with residue 512 and no detail. -/
def statusGood : List Byte := [0x00#8, 0x00#8, 0x00#8, 0x00#8, 0x00#8, 0x02#8, 0x00#8, 0x00#8]

/-! ## More states -/

/-- Entry 0 holds request h. -/
def holding : State :=
  { inUse base 0 { writeExchange with
      state := .held, tag := 0x0A11#16, length := 512, proceeded := some 0,
      routing := some { link := .t0, unit := 0x10#8, block := 0, commandSent := false },
      storedRequest := some (.inCells requestH), deadline := some { kind := .hold, due := 900#32 } } with
    holdQueue := [{ entry := { index := 0, inc := 1 }, timeoutMs := 500 }] }

/-- Entry 0 waits for the body of a WRITE_ENTRY of initiator record 5: four bytes, three of them received. -/
def bodyWaiting : State :=
  { inUse base 0 { state := .mgmtBody, kind := .mgmt, initiator := 1, tag := 0x0B01#16, opcode := 0#8, direction := .dirOut, length := 4,
                   moved := 3, proceeded := some 4, storedRequest := some (.inCells ((ask 6#8 1#8 5#8 0#8).set 6 0x02#8)),
                   operation := some 6#8, deadline := some { kind := .body, due := 1000#32 },
                   bodyFrames := [[0x03#8, 0x10#8, 0x0B#8, 0x01#8, 0#8, 0#8, 0#8, 0#8, 0#8, 3#8, 0#8, 0#8, 0x07#8, 0x04#8, 0x00#8]] } with
    lease := some { owner := 1, deadline := 31000#32 } }

/-- Its last body frame. -/
def lastBody : List Byte := [0x03#8, 0x10#8, 0x0B#8, 0x01#8, 0#8, 0#8, 3#8, 0#8, 0#8, 1#8, 0#8, 0#8, 0x1E#8]

/-- A batch in flight whose frame has left. -/
def batchSent : State :=
  { base with
    lease := some { owner := 1, deadline := 31000#32 }, sequence := 0x0102#16,
    alerts := [{ cause := .commitDone, time := 1#32 }, { cause := .commitDone, time := 2#32 }],
    batch := some { size := 1, sequence := 0x0102#16, carried := 3, resend := some 1000#32, sentOnce := true } }

/-- Entry 0 waits for the service of a snapshot. -/
def replying (data : List Byte) : State :=
  { inUse base 0 { state := .replying, kind := .queryReply, initiator := 1, tag := 0x0A12#16, opcode := 0x40#8, direction := .dirIn,
                   length := 16, view := some 1, replyRecord := some 1, snapshot := some { code := 0#8, data := data, started := false } } with
    startList := [{ index := 0, inc := 1 }] }

/-- A closing STATUS of initiator 1. -/
def closing : Frame := { initiator := 1, tag := 0x0A12#16, body := .status 0xD3#8 false false 16 [] }

/-- A management REQUEST of initiator 1 while entry 0 holds request h. -/
def askingHeld (a b c d : Byte) : State := { arrive holding .i (ask a b c d) with lease := some { owner := 1, deadline := 31000#32 } }

/-! ## One step per command, by family -/

set_option maxRecDepth 20000 in
theorem test_reset_and_links :
    -- powerOnReset
    leaves (exec .powerOnReset base) (fun t => t.freeCells == 2048 && t.portI.state == .down && t.bootstrap) = true
    -- resetPinAssertion
    ∧ leaves (exec .resetPinAssertion base) (fun t => t.resetPin && t.clock == 0#32) = true
    -- clock_wraps
    ∧ leaves (exec .millisecondClockAdvance { base with clock := 0xFFFFFFFF#32 }) (fun t => t.clock == 0#32) = true
    -- signalPresent
    ∧ leaves (exec (.signalPresent .t0) State.reset) (fun t => t.portT0.state == .training) = true
    -- laneLock
    ∧ leaves (exec (.laneLock .t0) { State.reset with portT0 := { state := .training } })
      (fun t => t.portT0.wire == [[0x08#8, 0#8, 0#8, 0#8, 0x01#8, 8#8, 16#8, 1#8]] && t.freeCells == 1904) = true
    -- signalLoss
    ∧ leaves (exec (.signalLoss .t0) (inUse base 0 readExchange))
      (fun t => (t.entry 0).exchange.isNone && t.portT0.state == .down && t.portI.egress.length == 1 && t.alerts.length == 1) = true
    -- initWaitExpiry
    ∧ leaves (exec (.initWaitExpiry .t1) { State.reset with portT1 := { state := .initWait, initFailures := 7, initDeadline := some 0#32 } })
      (fun t => t.portT1.state == .failed && t.portT1.initFailures == 8) = true
    -- initArrival
    ∧ leaves (exec (.initArrival .i [0x08#8, 0#8, 0#8, 0#8, 0x01#8, 8#8, 20#8, 1#8])
      { State.reset with portI := { state := .initWait, initDeadline := some 50#32, offered := 32 }, freeCells := 1760 })
      (fun t => t.portI.state == .up && t.portI.peerSegment == some 512 && t.portI.peerCredit == 20 && t.portI.announced == 32) = true
    -- peerRestart
    ∧ leaves (exec (.peerRestart .t0 [0x08#8, 0#8, 0#8, 0#8, 0x02#8, 4#8, 9#8, 1#8]) base)
      (fun t => t.portT0.state == .up && t.portT0.peerSegment == some 256 && t.portT0.peerCredit == 9) = true := by
  and_intros <;> rfl

theorem test_credit_and_arrivals :
    -- creditArrival
    leaves (exec (.creditArrival .t0 [0x07#8, 0#8, 0#8, 0#8, 5#8, 0#8, 0#8, 0#8]) base) (fun t => t.portT0.peerCredit == 15) = true
    -- creditedFrameArrival
    ∧ leaves (exec (.creditedFrameArrival .i requestA) base) (fun t => t.portI.arrived == [requestA] && t.portI.owed == 1) = true
    -- creditSend
    ∧ leaves (exec (.creditSend .t0) { base with portT0 := { upPort 12 with owed := 4 } })
      (fun t => t.portT0.announced == 16 && t.portT0.owed == 0 && t.portT0.wire == [[0x07#8, 0#8, 0#8, 0#8, 4#8, 0#8, 0#8, 0#8]]) = true
    -- unknownKindDiscard
    ∧ leaves (exec (.unknownKindDiscard .t0) (arrive base .t0 [0x0A#8, 0#8, 0#8, 0#8]))
      (fun t => t.portT0.arrived == [] && (t.alerts.map Alert.cause) == [.staleFrame .unknownKind]) = true
    -- wrongLinkFrame
    ∧ leaves (exec (.wrongLinkFrame .t0) (arrive base .t0 (targetFrame 0x05#8 [0#8, 0#8, 0#8, 0#8])))
      (fun t => (t.alerts.map Alert.frameKind) == [some 0x05#8]) = true := by
  and_intros <;> rfl

theorem test_verdicts :
    -- verdict_request_a
    leaves (exec .verdict (arrive base .i requestA))
      (fun t => (t.entry 0).inc == 1 && t.portT0.egress.map Descriptor.cells == [1]
      && t.portT0.egress.all fun d => match d.content with
      | .stored f _ => f.encode.take 6 == [0x01#8, 0x00#8, 0x00#8, 0x40#8, 0x10#8, 0x30#8]
      | _ => false) = true
    -- verdict_request_i
    ∧ leaves (exec .verdict (arrive base .i requestI))
      (fun t => (t.entry 0).exchange.isNone && (t.alerts.map Alert.cause) == [.denial 0xCA#8]) = true := by
  and_intros <;> rfl

set_option maxRecDepth 200000 in
theorem test_target_frames :
    -- targetProceed
    leaves (exec (.targetProceed .t0) (inUse (arrive base .t0 (targetFrame 0x02#8 [0x00#8, 0x02#8, 0x00#8, 0x00#8])) 0 writeExchange))
      (fun t => ((t.entry 0).exchange.bind Exchange.proceeded) == some 1536) = true
    -- targetData
    ∧ leaves (exec (.targetData .t0) (inUse (arrive base .t0 (targetFrame 0x03#8 dataFrom512)) 0 readExchange))
      (fun t => ((t.entry 0).exchange.map Exchange.moved) == some 516 && t.portI.egress.length == 1) = true
    -- targetStatus
    ∧ leaves (exec (.targetStatus .t0) (inUse (arrive base .t0 (targetFrame 0x04#8 statusGood)) 0 { writeExchange with moved := 1536 }))
      (fun t => (t.entry 0).exchange.isNone && t.portI.egress.all fun d => match d.content with
      | .stored f _ => f.encode == [0x04#8, 0x10#8, 0x05#8, 0x00#8, 0x00#8, 0x03#8, 0#8, 0#8, 0#8, 0#8, 0#8, 0#8]
      | _ => false) = true
    -- targetAbortDone
    ∧ leaves (exec (.targetAbortDone .t0) (inUse (arrive base .t0 (targetFrame 0x06#8 [0x01#8, 0#8, 0#8, 0#8])) 0
      { readExchange with state := .aborting, origin := some .initiator }))
      (fun t => (t.entry 0).exchange.isNone && t.portI.egress.length == 1) = true := by
  and_intros <;> rfl

theorem test_initiator_frames :
    -- initiatorData
    leaves (exec .initiatorData (inUse (arrive base .i ([0x03#8, 0x10#8, 0x05#8, 0x00#8] ++ dataFrom512)) 0 { writeExchange with moved := 512 }))
      (fun t => ((t.entry 0).exchange.map Exchange.moved) == some 516 && t.portT0.egress.length == 1) = true
    -- initiatorAbort
    ∧ leaves (exec .initiatorAbort (inUse (arrive base .i [0x05#8, 0x30#8, 0x0A#8, 0x10#8, 0#8, 0#8, 0#8, 0#8]) 0 readExchange))
      (fun t => ((t.entry 0).exchange.bind Exchange.deadline) == some { kind := .grace, due := 1250#32 }
      && (t.portT0.egress.map fun d => (d.content == .made { initiator := 0, tag := 0x0040#16, body := .abort })) == [true]) = true := by
  and_intros <;> rfl

theorem test_expiries :
    -- exchangeDeadlineExpiry
    leaves (exec (.exchangeDeadlineExpiry 0) (inUse base 0 readExchange))
      (fun t => (t.portI.egress.map Descriptor.content)
      == [.made { initiator := 3, tag := 0x0A10#16, body := .status 0xD3#8 false false 3584 [] }]) = true
    -- graceExpiry
    ∧ leaves (exec (.graceExpiry 0) (inUse base 0 { readExchange with state := .aborting, closed := true, deadline := some { kind := .grace, due := 900#32 } }))
      (fun t => t.entry 0 == { inc := 1, exchange := none } && t.portI.egress == []) = true
    -- holdExpiry
    ∧ leaves (exec (.holdExpiry 0) holding) (fun t => t.holdQueue == [] && (t.alerts.map Alert.cause) == [.holdExpired]) = true
    -- bodyDeadlineExpiry
    ∧ leaves (exec (.bodyDeadlineExpiry 0) bodyWaiting)
      (fun t => (t.entry 0).exchange.isNone && (t.alerts.map Alert.cause) == [.timeout .body]) = true
    -- leaseExpiry
    ∧ leaves (exec .leaseExpiry { base with lease := some { owner := 1, deadline := 1000#32 } })
      (fun t => t.lease.isNone && (t.alerts.map Alert.cause) == [.leaseEnded .expired]) = true
    -- resendDeadlineExpiry
    ∧ leaves (exec .resendDeadlineExpiry batchSent) (fun t => t.portI.egress == [{ content := .alert }]) = true
    -- resyncCompletion
    ∧ leaves (exec .resyncCompletion { base with resync := some 1000#32 })
      (fun t => t.stagingBank.views.get 3 == some viewThree && t.resync.isNone && (t.alerts.map Alert.cause) == [.commitDone]) = true := by
  and_intros <;> rfl

set_option maxRecDepth 20000 in
theorem test_replies_and_egress :
    -- replyServiceStart
    leaves (exec .replyServiceStart (replying [1#8, 2#8]))
      (fun t => t.portI.egress == [{ content := .run 0 [1#8, 2#8], entry := some { index := 0, inc := 1 } }] && t.startList == []) = true
    -- transmission
    ∧ leaves (exec (.transmission .i) (queueing base .i [{ content := .made closing }]))
      (fun t => t.portI.wire == [[0x04#8, 0x10#8, 0x0A#8, 0x12#8, 0xD3#8, 0#8, 0#8, 0#8, 0#8, 0#8, 16#8, 0#8]]
      && t.portI.peerCredit == 9) = true
    -- headDiscard
    ∧ leaves (exec (.headDiscard .t0) (queueing base .t0 [{ content := .made closing, entry := some { index := 0, inc := 1 } }]))
      (fun t => t.portT0.egress == [] && t.portT0.peerCredit == 10) = true
    -- headDiscard_waits_for_credit
    ∧ leaves (exec (.headDiscard .t0) { base with portT0 :=
        { upPort 16 with peerCredit := 0, egress := [{ content := .made closing, entry := some { index := 0, inc := 1 } }] } })
      (fun t => t.portT0.egress.length == 1) = true
    -- warmReset_takes_effect
    ∧ leaves (exec (.transmission .i) { queueing (inUse base 0 readExchange) .i [{ content := .made closing, warmMark := true }] with warmPending := true })
      (fun t => t.resync == some 1002#32 && (t.entry 0).exchange.isNone && t.portT0.egress.length == 1 && t.portI.egress.length == 1) = true := by
  and_intros <;> rfl

theorem test_lease_operations :
    -- claim
    leaves (exec (.claim .verdict) { asking 2#8 0#8 0#8 0#8 with lease := none })
      (fun t => t.lease == some { owner := 1, deadline := 31000#32 }) = true
    -- claim_held
    ∧ leaves (exec (.claim .verdict) { asking 2#8 0#8 0#8 0#8 with lease := some { owner := 2, deadline := 31000#32 } })
      (fun t => (t.portI.egress.map Descriptor.content) == [.run 0 [2#8]]
      && (((t.entry 0).exchange.bind Exchange.answer).map Answer.code) == some 0xE1#8) = true
    -- renew
    ∧ leaves (exec (.renew .verdict) { asking 3#8 0#8 0#8 0#8 with clock := 2000#32 })
      (fun t => t.lease == some { owner := 1, deadline := 32000#32 }) = true
    -- releaseLease
    ∧ leaves (exec (.releaseLease .verdict) (asking 4#8 0#8 0#8 0#8))
      (fun t => t.lease.isNone && (t.alerts.map Alert.cause) == [.leaseEnded .released]) = true := by
  and_intros <;> rfl

theorem test_reading_operations :
    -- identify
    leaves (exec (.identify .verdict) (asking 1#8 0#8 0#8 0#8))
      (fun t => (t.portI.egress.map Descriptor.content) == [.run 0
      [0x04#8, 0x12#8, 0x01#8, 0#8, 16#8, 128#8, 1#8, 0#8, 32#8, 0#8, 0#8, 0#8, 0#8, 0#8, 0#8, 0#8]]) = true
    -- readEntry
    ∧ leaves (exec (.readEntry .verdict) (asking 5#8 1#8 2#8 0#8))
      (fun t => (t.portI.egress.map Descriptor.content) == [.run 0 [0x07#8, 4#8, 0#8, 30#8]]) = true
    -- readExchange
    ∧ leaves (exec (.readExchange .verdict) (asking 9#8 7#8 0#8 0#8))
      (fun t => (t.portI.egress.map Descriptor.content) == [.run 0 (List.replicate 40 0#8)]) = true
    -- holdList
    ∧ leaves (exec (.holdList .verdict) { askingHeld 10#8 0#8 0#8 0#8 with clock := 800#32 })
      (fun t => (t.portI.egress.map Descriptor.content) == [.run 0
      [1#8, 0#8, 0#8, 0#8, 0#8, 1#8, 1#8, 0x0A#8, 0x11#8, 1#8, 0#8, 0x10#8, 0x31#8, 2#8, 0#8, 2#8, 0#8, 0#8, 1#8,
      0#8, 0#8, 0#8, 0#8, 0#8, 0x01#8, 0xF4#8, 0#8, 100#8]]) = true
    -- linkState
    ∧ leaves (exec (.linkState .verdict) (asking 14#8 0#8 0#8 0#8))
      (fun t => (t.portI.egress.map Descriptor.content) == [.run 0
      [3#8, 0#8, 8#8, 32#8, 0#8, 10#8, 0#8, 0#8, 3#8, 0#8, 8#8, 16#8, 0#8, 10#8, 0#8, 0#8, 3#8, 0#8, 8#8, 16#8, 0#8, 10#8, 0#8, 0#8,
      0x05#8, 0xC0#8, 0#8, 0#8]]) = true := by
  and_intros <;> rfl

theorem test_staging_operations :
    -- writeEntry
    leaves (exec (.writeEntry .lastBodyFrame) (arrive bodyWaiting .i lastBody))
      (fun t => t.stagingBank.initiators.get 5 == some { dataRight := true, mgmtRight := true, quota := 4, leaseTime := 30 } && t.dirty) = true
    -- clearStaging
    ∧ leaves (exec (.clearStaging .verdict) { asking 7#8 0#8 0#8 0#8 with bankB := exampleBank })
      (fun t => t.bankB.noInitiator && (t.bankB.views.get 3).isNone && t.bankB.classOf 0x30#8 == .undefined && t.dirty) = true
    -- commit
    ∧ leaves (exec (.commit .verdict) { asking 8#8 0#8 0#8 0#8 with bankB := exampleBank })
      (fun t => t.active == .b && t.generation == 1#32 && t.resync == some 1002#32) = true
    -- commit_fault
    ∧ leaves (exec (.commit .verdict)
      { asking 8#8 0#8 0#8 0#8 with
      bankB := { exampleBank with views := exampleBank.views.set 3 (some { viewThree with mask := 0#16 }) } })
      (fun t => (t.portI.egress.map Descriptor.content) == [.run 0 [0x02#8, 0#8, 0#8, 3#8]] && t.active == .a) = true := by
  and_intros <;> rfl

theorem test_owner_operations :
    -- holdDecide_release
    leaves (exec (.holdDecide .verdict) (askingHeld 11#8 0#8 1#8 1#8))
      (fun t => t.holdQueue == [] && ((t.entry 0).exchange.bind Exchange.deadline) == some { kind := .exchange, due := 1500#32 }
      && t.portT0.egress.length == 1) = true
    -- holdDecide_reject
    ∧ leaves (exec (.holdDecide .verdict) (askingHeld 11#8 0#8 1#8 2#8))
      (fun t => (t.entry 0).exchange.isNone && (t.portI.egress.map Descriptor.content) ==
      [.made { initiator := 1, tag := 0x0A11#16, body := .status 0xD1#8 false false 512 [] }, .run 0 [3#8, 0#8, 1#8, 0#8]]) = true
    -- alertAck
    ∧ leaves (exec (.alertAck .verdict) (arrive batchSent .i (ask 12#8 0x01#8 0x02#8 0#8)))
      (fun t => (t.alerts.map Alert.time) == [2#32] && t.sequence == 0x0103#16) = true
    -- endExchange
    ∧ leaves (exec (.endExchange .verdict) (inUse (asking 13#8 5#8 1#8 0#8) 5 readExchange))
      (fun t => ((t.entry 5).exchange.bind Exchange.origin) == some .management && t.portT0.egress.length == 1) = true
    -- warmReset
    ∧ leaves (exec (.warmReset .verdict) (asking 15#8 0#8 0#8 0#8))
      (fun t => t.warmPending && (t.portI.egress.map Descriptor.warmMark) == [true]) = true := by
  and_intros <;> rfl

/-! ## Queue of commands and encodings -/

theorem test_idle : leaves (step base) (fun t => t.clock == 1000#32) = true := rfl
theorem test_alert_bytes :
    ({ cause := .staleFrame .incarnation, time := 1820#32, entry := some { index := 0, inc := 1 }, tag := some 0x0040#16, link := some .t0 } : Alert).encode
      = [0x06#8, 0x04#8, 0x15#8, 0#8, 0#8, 0#8, 0x07#8, 0x1C#8, 0#8, 1#8, 0#8, 1#8, 0#8, 0x40#8, 0#8, 0#8]
        ++ List.replicate 16 0#8 := rfl

/-! ## Witnesses: no statement has empty hypotheses -/

/-- The state once its one frame on a port has been taken. -/
def taken (s : State) (p : Port) : State := s.setPort p { s.port p with arrived := [] }

theorem test_witness_StepRunsFrontCommand : ∃ s t : State, s.pending = [.verdict] ∧ t.pending = [] :=
  ⟨{ base with pending := [.verdict] }, base, rfl, rfl⟩

theorem test_witness_ResetPinSetsPowerOnValues :
    ∃ (c : Instr) (s : State), s.resetPin = true ∧ c ≠ .powerOnReset ∧ c ≠ .resetPinAssertion :=
  ⟨.verdict, { base with resetPin := true }, rfl, nofun, nofun⟩

theorem test_witness_ClockAdvancesAndDeadlinesCompare :
    (∃ s : State, s.resetPin = false ∧ s.clock = 0xFFFFFFFF#32) ∧ (∃ n : Nat, n < 2 ^ 31 ∧ 2 ^ 31 - 1 ≤ n) ∧ ∃ n : Nat, 1 ≤ n ∧ n ≤ 2 ^ 31
        ∧ 2 ^ 31 ≤ n :=
  ⟨⟨{ base with clock := 0xFFFFFFFF#32 }, rfl, rfl⟩, ⟨2 ^ 31 - 1, by decide, by decide⟩, ⟨2 ^ 31, by decide, by decide, by decide⟩⟩

/-- Every deadline is one ms ahead: entry 0 holds one of each kind in turn, T1 is in INIT_WAIT. -/
def awaiting (k : DeadlineKind) : State :=
  { inUse batchSent 0 { readExchange with deadline := some { kind := k, due := 1001#32 } } with
    portT1 := { state := .initWait, initDeadline := some 1001#32 }, lease := some { owner := 1, deadline := 1001#32 },
    batch := some { size := 1, sequence := 0x0102#16, carried := 3, resend := some 1001#32, sentOnce := true }, resync := some 1001#32 }

theorem test_witness_ClockAdvancesAndDeadlinesCompare_ahead :
    (∀ k, ∃ x, ((awaiting k).entry 0).exchange = some x ∧ x.deadline = some { kind := k, due := 1001#32 }
      ∧ 2 ^ 31 ≤ ((awaiting k).clock - 1001#32).toNat ∧ ((awaiting k).port .t1).initDeadline = some 1001#32
      ∧ ((awaiting k).port .t1).state = .initWait ∧ (awaiting k).lease = some { owner := 1, deadline := 1001#32 }
      ∧ (awaiting k).batch.bind Batch.resend = some 1001#32 ∧ (awaiting k).resync = some 1001#32)
    ∧ (base.entry 0).exchange = none ∧ (base.port .i).initDeadline = none ∧ base.lease = none ∧ base.batch = none ∧ base.resync = none :=
  ⟨fun _ => ⟨_, rfl, rfl, show 2 ^ 31 ≤ (1000#32 - 1001#32 : Clock).toNat by decide, rfl, rfl, rfl, rfl, rfl⟩, rfl, rfl, rfl, rfl, rfl⟩

theorem test_witness_FrameFieldsRoundTrip :
    (∃ (length count : Nat) (params : List Byte), length < 2 ^ 24 ∧ count < 2 ^ 16 ∧ params.length ≤ 32 ∧ params.length % 4 = 0)
    ∧ ∃ (value : Nat) (b1 b2 b3 : List Byte), value < 2 ^ 24 ∧ 1 ≤ b1.length ∧ b1.length ≤ 512 ∧ 1 ≤ b2.length ∧ b2.length ≤ 512 ∧ b3.length ≤ 16 :=
  ⟨⟨2 ^ 24 - 1, 65535, List.replicate 32 0#8, by decide, by decide, by decide, by decide⟩,
   ⟨2 ^ 24 - 1, [0#8], List.replicate 512 0#8, List.replicate 16 0#8, by decide, by decide, by decide,
    by rw [List.length_replicate]; decide, le_of_eq List.length_replicate, by decide⟩⟩

theorem test_witness_PolicyRecordsRoundTrip :
    (∃ r : InitiatorRecord, 1 ≤ r.quota ∧ r.quota ≤ 16 ∧ 1 ≤ r.leaseTime ∧ r.leaseTime ≤ 600)
    ∧ (∃ v : View, v.virtualUnit ≠ 0xFF#8 ∧ v.unit ≠ 0xFF#8 ∧ 1 ≤ v.extent ∧ v.extent < 2 ^ 48 ∧ 1 ≤ v.holdWait ∧ v.holdWait ≤ 600
        ∧ 1 ≤ v.timeout ∧ v.timeout ≤ 6000)
    ∧ ∃ r : ReplyRecord, r.unit ≠ 0xFF#8 ∧ r.code.toNat < 0xC0 ∧ r.data.length ≤ 256 :=
  ⟨⟨{ reader with quota := 16, leaseTime := 600 }, by decide⟩,
   ⟨{ viewZero with extent := 2 ^ 48 - 1, holdWait := 600, timeout := 6000 }, by decide⟩,
   ⟨{ replyOne with code := 0xBF#8, data := List.replicate 256 0#8 }, by decide, by decide, le_of_eq List.length_replicate⟩⟩

/-- Bodies that check 3 of R150 lets pass, at the bounds of their fields, and bodies that it stops: too short, or one step past a bound. -/
theorem test_witness_PolicyRecordsRoundTrip_bodies :
    (∀ body ∈ [({ reader with quota := 16, leaseTime := 600 } : InitiatorRecord).encode, [0xF8#8, 0#8, 0#8, 0#8]],
      body.length = 4 ∧ ((byteAt body 0).getLsbD 0 = true → (byteAt body 0).toNat < 8 ∧ 1 ≤ (byteAt body 1).toNat ∧ (byteAt body 1).toNat ≤ 16
        ∧ 1 ≤ fieldAt body 2 2 ∧ fieldAt body 2 2 ≤ 600))
    ∧ ([0x07#8, 4#8, 0#8] : List Byte).length ≠ 4 ∧ ¬(byteAt ({ reader with quota := 17 } : InitiatorRecord).encode 1).toNat ≤ 16
    ∧ (∀ body ∈ [({ viewOne with holdWait := 600, timeout := 6000 } : View).encode, List.replicate 24 0x02#8],
      body.length = 24 ∧ ((byteAt body 0).getLsbD 0 = true → (byteAt body 0).toNat < 32 ∧ (byteAt body 1).toNat ≤ 2 ∧ byteAt body 4 ≠ 0xFF#8
        ∧ byteAt body 6 ≠ 0xFF#8 ∧ 1 ≤ fieldAt body 13 6 ∧ byteAt body 19 = 0#8 ∧ 1 ≤ fieldAt body 20 2 ∧ fieldAt body 20 2 ≤ 600
        ∧ 1 ≤ fieldAt body 22 2 ∧ fieldAt body 22 2 ≤ 6000))
    ∧ byteAt viewOne.encode 1 = 0x01#8 ∧ ¬fieldAt ({ viewOne with timeout := 6001 } : View).encode 22 2 ≤ 6000
    ∧ (([0x05#8, 0#8, 0#8, 0#8] : List Byte).length = 4 ∧ (0x05#8 : Byte).toNat ≤ 5 ∧ ¬(0x06#8 : Byte).toNat ≤ 5)
    ∧ (∀ body ∈ [replyOne.encode, replyZero.encode, List.replicate 12 0#8],
      12 ≤ body.length ∧ fieldAt body 8 2 ≤ 256 ∧ body.length = 12 + fieldAt body 8 2
        ∧ ((byteAt body 0).getLsbD 0 = true → (byteAt body 0).toNat < 2 ∧ byteAt body 2 ≠ 0xFF#8
          ∧ (byteAt body 4 = 0x00#8 ∨ byteAt body 4 = 0x01#8 ∧ byteAt body 5 = 0#8) ∧ (byteAt body 6).toNat < 0xC0
          ∧ byteAt body 7 = 0#8 ∧ byteAt body 10 = 0#8 ∧ byteAt body 11 = 0#8))
    ∧ ¬(byteAt ({ replyOne with code := 0xC0#8 } : ReplyRecord).encode 6).toNat < 0xC0 := by
  and_intros <;> decide

/-- Port T0 in TRAINING. -/
def training : State := { State.reset with portT0 := { state := .training } }

/-- Port I in INIT_WAIT, its wait over, after some failures. -/
def initWaiting (failures : Nat) : State :=
  { base with portI := { state := .initWait, initFailures := failures, initDeadline := some 1000#32, offered := 3 } }

theorem test_witness_InitBringsUpOrFails :
    ((initWaiting 0).resetPin = false ∧ ((initWaiting 0).port .i).state = .initWait)
    ∧ (∃ seg b1 : Byte, b1.toNat % 16 = 0 ∧ 1 ≤ seg.toNat ∧ seg.toNat ≤ 8 ∧ seg = 1#8)
    ∧ (∃ seg b1 : Byte, b1.toNat % 16 = 0 ∧ 1 ≤ seg.toNat ∧ seg.toNat ≤ 8 ∧ seg = 8#8)
    ∧ (∃ f : List Byte, byteAt f 0 = 0x08#8 ∧ initFaulty .i f .badInit ∧ f.length ≠ 8)
    ∧ (∃ f : List Byte, byteAt f 0 = 0x08#8 ∧ initFaulty .i f .sameRole)
    ∧ (∃ f : List Byte, byteAt f 0 = 0x08#8 ∧ initFaulty .i f .badInit ∧ f.length = 8 ∧ byteAt f 4 = 0x03#8)
    ∧ (∃ f : List Byte, byteAt f 0 = 0x08#8 ∧ initFaulty .i f .badInit ∧ f.length = 8 ∧ (byteAt f 5).toNat = 0)
    ∧ (∃ f : List Byte, byteAt f 0 = 0x08#8 ∧ initFaulty .i f .badInit ∧ f.length = 8 ∧ (byteAt f 5).toNat = 9)
    ∧ ∃ f : List Byte, byteAt f 0 = 0x08#8 ∧ initFaulty .i f .badInit ∧ f.length = 8 ∧ (byteAt f 1).toNat % 16 ≠ 0 := by
  unfold initFaulty
  exact ⟨⟨rfl, rfl⟩, ⟨1#8, 0x10#8, by decide⟩, ⟨8#8, 0#8, by decide⟩, ⟨[0x08#8], by decide⟩, ⟨[8#8, 0#8, 0#8, 0#8, 2#8, 8#8, 0#8, 1#8], by decide⟩,
   ⟨[8#8, 0#8, 0#8, 0#8, 3#8, 8#8, 0#8, 1#8], by decide⟩, ⟨[8#8, 0#8, 0#8, 0#8, 1#8, 0#8, 0#8, 1#8], by decide⟩,
   ⟨[8#8, 0#8, 0#8, 0#8, 1#8, 9#8, 0#8, 1#8], by decide⟩, ⟨[8#8, 1#8, 0#8, 0#8, 1#8, 8#8, 0#8, 1#8], by decide⟩⟩

theorem test_witness_InitWaitBeginsAndEnds :
    (∃ (s : State) (p : Port), s.resetPin = false ∧ (s.port p).state = .down)
    ∧ (∃ (s : State) (p : Port), s.resetPin = false ∧ (s.port p).state = .training)
    ∧ (∀ n, ∃ (s : State) (d : Clock), s.resetPin = false ∧ (s.port .i).state = .initWait ∧ (s.port .i).initDeadline = some d
        ∧ (s.clock - d).toNat < 2 ^ 31 ∧ (s.port .i).initFailures = n)
    ∧ ∃ (s : State) (p : Port), s.resetPin = false ∧ (s.port p).state ≠ .up :=
  ⟨⟨State.reset, .i, rfl, rfl⟩, ⟨training, .t0, rfl, rfl⟩, fun n => ⟨initWaiting n, 1000#32, rfl, rfl, rfl,
      show (1000#32 - 1000#32 : Clock).toNat < 2 ^ 31 by decide, rfl⟩,
   ⟨initWaiting 0, .i, rfl, nofun⟩⟩

/-- Entry 0 routed to T0, entry 1 routed to T0 with a parked STATUS, entry 2 routed there with its command unsent, entry 3 in ABORTING, entry 4
FREE. -/
def mixed : State :=
  inUse (inUse (inUse (inUse base 0 readExchange) 1
      { readExchange with initiator := 1, parked := some { code := 0#8, residue := 0, detail := [], cells := 1 }, dataWaiting := 1 }) 2
    { unsentExchange with initiator := 2 }) 3
    { readExchange with state := .aborting, tag := 1#16, deadline := some { kind := .grace, due := 1000#32 }, origin := some .timeout }

/-- The routing of these entries, command sent. -/
def routed : Routing := { link := .t0, unit := 0x10#8, block := 0, commandSent := true }

/-- Witness of TargetTeardownEndsRouted and InitiatorTeardownEndsAll, with an entry of every condition of R132 and R133. -/
theorem test_witness_Teardowns :
    (mixed.resetPin = false ∧ (mixed.port (targetPort .t0)).state = .up ∧ (mixed.port .i).state = .up) ∧ (mixed.entry 4).exchange = none
    ∧ (∃ x, (mixed.entry 0).exchange = some x ∧ x.routedTo .t0 = true ∧ x.abandoned = true)
    ∧ (∃ x, (mixed.entry 1).exchange = some x ∧ x.routedTo .t0 = false ∧ x.abandoned = false)
    ∧ (∃ x, (mixed.entry 2).exchange = some x ∧ x.routedTo .t0 = true ∧ x.abandoned = false)
    ∧ (∃ x, (mixed.entry 3).exchange = some x ∧ x.routedTo .t0 = true ∧ x.state = .aborting)
    ∧ ∃ (s : State) (l : Lease), s.resetPin = false ∧ (s.port .i).state = .up ∧ s.lease = some l :=
  ⟨⟨rfl, rfl, rfl⟩, rfl, ⟨_, rfl, rfl, rfl⟩, ⟨_, rfl, rfl, rfl⟩, ⟨_, rfl, rfl, rfl⟩, ⟨_, rfl, rfl, rfl⟩, ⟨batchSent, _, rfl, rfl, rfl⟩⟩

theorem test_witness_PeerRestartBringsUpAgain :
    (∃ b1 low high : Byte, base.resetPin = false ∧ (base.port .t1).state = .up ∧ b1.toNat % 16 = 0 ∧ low.toNat = 1 ∧ high.toNat = 8)
    ∧ ∃ (f : List Byte), byteAt f 0 = 0x08#8 ∧ initFaulty .t1 f .sameRole :=
  ⟨⟨0#8, 1#8, 8#8, rfl, rfl, rfl, rfl, rfl⟩, ⟨[8#8, 0#8, 0#8, 0#8, 1#8, 8#8, 0#8, 1#8], by unfold initFaulty; decide⟩⟩

/-- Ports I and T0 at their limit, T1 below its own, nine cells free. -/
def scarce : State := { base with portT1 := upPort 15, freeCells := 9 }

theorem test_witness_GrantsAndBatchSettle :
    (∃ s : State, s.freeCells < 9)
    ∧ (∃ (s : State) (p : Port), 9 ≤ s.freeCells ∧ p = s.rotation ∧ (s.port p).state = .up
        ∧ (s.port p).announced + (s.port p).owed < (if p = .i then 32 else 16))
    ∧ (∃ (s : State) (p : Port), 9 ≤ s.freeCells ∧ p = nextPort s.rotation ∧ s.eligible s.rotation = false ∧ (s.port p).state = .up
        ∧ (s.port p).announced + (s.port p).owed < (if p = .i then 32 else 16))
    ∧ ∃ (s : State) (p : Port), 9 ≤ s.freeCells ∧ p = nextPort (nextPort s.rotation) ∧ s.eligible s.rotation = false
        ∧ s.eligible (nextPort s.rotation) = false ∧ (s.port p).state = .up
        ∧ (s.port p).announced + (s.port p).owed < (if p = .i then 32 else 16) :=
  ⟨⟨{ scarce with freeCells := 8 }, by decide⟩, ⟨{ scarce with rotation := .t1 }, .t1, by decide, rfl, rfl, by decide⟩,
   ⟨{ scarce with rotation := .t0 }, .t1, by decide, rfl, rfl, rfl, by decide⟩, ⟨scarce, .t1, by decide, rfl, rfl, rfl, rfl, by decide⟩⟩

theorem test_witness_CreditIsCounted :
    (∃ (s : State) (n : Byte), s.resetPin = false ∧ (s.port .i).state = .up ∧ 1 ≤ n.toNat ∧ (s.port .i).peerCredit + n.toNat = 65535)
    ∧ (∃ s : State, s.resetPin = false ∧ (s.port .t0).state = .up ∧ 1 ≤ (s.port .t0).owed)
    ∧ (base.resetPin = false ∧ (base.port .i).state = .up ∧ 1 ≤ (base.port .i).announced)
    ∧ (∃ f : List Byte, f.length = 576 ∧ f.head? ≠ some 0x07#8 ∧ f.head? ≠ some 0x08#8)
    ∧ (∃ f : List Byte, byteAt f 0 = 0x07#8 ∧ f.length ≠ 8) ∧ (∃ f : List Byte, byteAt f 0 = 0x07#8 ∧ f.length = 8 ∧ byteAt f 4 = 0#8)
    ∧ (State.reset.port .i).state ≠ .up
    ∧ ∃ f : List Byte, f.length = 577 ∧ f.head? ≠ some 0x07#8 ∧ f.head? ≠ some 0x08#8 :=
  ⟨⟨{ base with portI := { upPort 32 with peerCredit := 65280 } }, 255#8, rfl, rfl, by decide, rfl⟩,
   ⟨{ base with portT0 := { upPort 15 with owed := 1 } }, rfl, rfl, by decide⟩, ⟨rfl, rfl, by decide⟩,
   ⟨List.replicate 576 3#8, List.length_replicate, by decide, by decide⟩, ⟨[7#8, 0#8, 0#8, 0#8, 1#8], rfl, nofun⟩,
   ⟨[7#8, 0#8, 0#8, 0#8, 0#8, 0#8, 0#8, 0#8], rfl, rfl, rfl⟩, nofun, ⟨List.replicate 577 3#8, List.length_replicate, by decide, by decide⟩⟩

theorem test_witness_CreditPast65535TearsDown :
    ∃ (s : State) (n : Byte), s.resetPin = false ∧ (s.port .i).state = .up ∧ 1 ≤ n.toNat ∧ (s.port .i).peerCredit + n.toNat = 65536 :=
  ⟨{ base with portI := { upPort 32 with peerCredit := 65535 } }, 1#8, rfl, rfl, by decide, rfl⟩

theorem test_witness_FrameWithoutCreditTearsDown :
    ∃ (s : State) (f : List Byte), s.resetPin = false ∧ (s.port .t0).state = .up ∧ (s.port .t0).announced = 0
      ∧ f.head? ≠ some 0x07#8 ∧ f.head? ≠ some 0x08#8 :=
  ⟨{ base with portT0 := upPort 0 }, [], rfl, rfl, rfl, nofun, nofun⟩

theorem test_witness_UnmatchedFramesAreDiscarded :
    (∀ f ∈ [[], [0x0A#8]], (arrive base .t0 f).takeNext .sorter .t0 = some (f, taken (arrive base .t0 f) .t0))
    ∧ (∃ (s u : State) (f : List Byte), s.taking .i 0x09#8 f u) ∧ (∃ (s u : State) (f : List Byte), s.taking .t1 0x01#8 f u)
    ∧ (∀ k ∈ [0x02#8, 0x03#8, 0x04#8, 0x06#8], (arrive base .t1 [k, 0#8, 0#8]).takeKind .t1 k
        = some ([k, 0#8, 0#8], taken (arrive base .t1 [k, 0#8, 0#8]) .t1))
    ∧ (∀ k ∈ [0x03#8, 0x05#8], (arrive base .i [k]).takeKind .i k = some ([k], taken (arrive base .i [k]) .i))
    ∧ (arrive base .i [1#8]).takeNext .admission .i = some ([1#8], taken (arrive base .i [1#8]) .i) := by
  refine ⟨?_, ⟨arrive base .i (targetFrame 9#8 []), taken (arrive base .i (targetFrame 9#8 [])) .i, targetFrame 9#8 [], rfl, rfl, by decide⟩,
    ⟨arrive base .t1 requestA, taken (arrive base .t1 requestA) .t1, requestA, rfl, rfl, by decide⟩, ?_, ?_, rfl⟩ <;>
  simp only [List.forall_mem_cons, List.not_mem_nil, false_imp_iff, implies_true, and_true] <;> and_intros <;> rfl

theorem test_witness_TablesDecideAsGiven :
    (State.reset.bootstrap = true ∧ base.bootstrap = false ∧ base.activeBank.initiators.get 2 = some reader)
    ∧ (viewZero.linkCode = 0x00#8 ∧ viewZero.blockSizeCode = 0x00#8 ∧ viewThree.linkCode = 0x01#8 ∧ viewThree.blockSizeCode = 0x01#8)
    ∧ 1 ≤ writeExchange.length
    ∧ (∃ v, { exampleBank with views := exampleBank.views.set 3 (some { viewThree with mask := 0#16 }) }.views.get 3 = some v ∧ v.mask = 0#16)
    ∧ (∃ r, ({ exampleBank with classes := exampleBank.classes.set 0x40 .control } : Bank).replies.get 0 = some r
        ∧ ({ exampleBank with classes := exampleBank.classes.set 0x40 .control } : Bank).classes.get r.opcode.toFin ≠ .query)
    ∧ (({ Bank.cleared with initiators := Bank.cleared.initiators.set 0 (some { reader with mgmtRight := false }) } : Bank).firstFault
        = some (.initiators, 0xFFFF))
    ∧ exampleBank.firstFault = none :=
  ⟨⟨rfl, rfl, rfl⟩, ⟨rfl, rfl, rfl, rfl⟩, by decide, ⟨_, rfl, rfl⟩, ⟨replyZero, rfl, by decide⟩, rfl, rfl⟩

/-- The quota of initiator 1 is used up. -/
def quotaSpent : State :=
  inUse (inUse (inUse (inUse base 0 writeExchange) 1 { writeExchange with tag := 1#16 }) 2 { writeExchange with tag := 2#16 }) 3
    { writeExchange with tag := 3#16 }

/-- Every entry is in use, by initiators 3 and 4. -/
def full : State := { base with entries := Vector.replicate 64 { inc := 1, exchange := some { readExchange with initiator := 4 } } }

theorem test_witness_ChecksApplyInOrder :
    requestFormOk [0x01#8] = false ∧ requestFormOk requestA = true ∧ State.reset.bootstrap = true ∧ (readRequest requestA).unit ≠ 0xFF#8
    ∧ base.bootstrap = false ∧ base.initiatorRecord (readRequest (requestA.set 1 0x50#8)).initiator = none
    ∧ base.initiatorRecord (readRequest requestA).initiator ≠ none
    ∧ (∃ (i : EntryIndex) (x : Exchange), ((inUse base 0 { writeExchange with tag := 0x0A10#16 }).entry i).exchange = some x ∧ x.closed = false
        ∧ x.initiator = (readRequest requestA).initiator ∧ x.tag = (readRequest requestA).tag)
    ∧ (∀ i, ¬(quotaSpent.entry i).holdsPair (readRequest requestA).initiator (readRequest requestA).tag)
    ∧ quotaSpent.quotaOf (readRequest requestA).initiator ≤ quotaSpent.inUseCount (readRequest requestA).initiator
    ∧ (∀ i, ¬(full.entry i).holdsPair (readRequest requestA).initiator (readRequest requestA).tag)
    ∧ full.inUseCount (readRequest requestA).initiator < full.quotaOf (readRequest requestA).initiator
    ∧ (∀ i, (full.entry i).exchange ≠ none)
    ∧ (mixed.entry 4).exchange = none ∧ (∀ j, j < 4 → (mixed.entry j).exchange ≠ none)
    ∧ (readRequest (ask 1#8 0#8 0#8 0#8)).unit = 0xFF#8 := by
  unfold Entry.holdsPair
  refine ⟨?_, ?_, ?_, ?_, ?_, ?_, ?_, ⟨0, { writeExchange with tag := 0x0A10#16 }, rfl, rfl, rfl, rfl⟩, ?_⟩ <;> first | rfl | decide

/-- The fields of request a, with some changed. -/
def ra : Request := readRequest requestA

theorem test_witness_StorageChecksApplyInOrder :
    let m := base.activeBank.matchView
    m 3 0x02#8 = none ∧ m ra.initiator ra.unit = some (1, viewOne) ∧ m 2 0x01#8 = some (0, viewZero) ∧ m 1 0x02#8 = some (3, viewThree)
    ∧ base.activeBank.classOf 0x99#8 = .undefined ∧ base.activeBank.classOf 0x5A#8 = .forbidden
    ∧ base.activeBank.classOf ra.opcode = .readBlocks ∧ OpClass.permits .readBlocks .dirOut = false ∧ OpClass.permits .readBlocks ra.direction = true
    ∧ viewZero.grants .writeBlocks = false ∧ base.hasDataRight ra.initiator = true ∧ viewOne.grants .readBlocks = true
    ∧ viewZero.extent < (999996#40).toNat + 5 ∧ (999996#40).toNat + 4 ≤ viewZero.extent ∧ 2 * viewThree.blockSize ≠ 4096
    ∧ 1 ≤ ra.count ∧ ra.block.toNat + ra.count ≤ viewOne.extent ∧ ra.count * viewOne.blockSize = ra.length ∧ viewOne.holds .readBlocks = false
    ∧ viewOne.holds .writeBlocks = true ∧ viewOne.holds .query = false
    ∧ (readRequest queryThree).direction = .dirIn ∧ base.activeBank.matchReply viewOne 0x40#8 (readRequest queryThree).params = some (1, replyOne)
    ∧ 1 + (min replyOne.data.length (readRequest queryThree).length + 63) / 64 ≤ base.freeCells
    ∧ ({ base with freeCells := 1 } : State).judgeStorage 0 (readRequest queryThree) = .issue 0 1 viewOne := by
  and_intros <;> first | rfl | decide

theorem test_witness_RefusalAnswersInFirstCell :
    (∃ f : List Byte, 4 ≤ f.length ∧ base.judge f = .refuse 0xC1#8 none) ∧ base.judge requestI = .refuse 0xCA#8 (some (1, viewOne))
    ∧ (arrive base .i requestI).resetPin = false
    ∧ (arrive base .i requestI).takeNext .admission .i = some (requestI, taken (arrive base .i requestI) .i)
    ∧ (taken (arrive base .i requestI) .i).judge requestI = .refuse 0xCA#8 (some (1, viewOne))
    ∧ ((taken (arrive base .i requestI) .i).port .i).state = .up :=
  ⟨⟨[1#8, 0#8, 0#8, 0#8], by decide, rfl⟩, rfl, rfl, rfl, rfl, rfl⟩

/-- Witness of IssueQueuesRewrittenRequest, HoldQueuesPlaceAndAlert and ReplyTakesSnapshot, in this order. -/
theorem test_witness_Admissions :
    ((arrive base .i requestA).takeNext .admission .i = some (requestA, taken (arrive base .i requestA) .i)
      ∧ (taken (arrive base .i requestA) .i).judge requestA = .issue 0 1 viewOne ∧ ((taken (arrive base .i requestA) .i).port .t0).state = .up)
    ∧ ((arrive base .i requestH).takeNext .admission .i = some (requestH, taken (arrive base .i requestH) .i)
      ∧ (taken (arrive base .i requestH) .i).judge requestH = .hold 0 1 viewOne)
    ∧ ((arrive base .i queryThree).takeNext .admission .i = some (queryThree, taken (arrive base .i queryThree) .i)
      ∧ (taken (arrive base .i queryThree) .i).judge queryThree = .reply 0 1 1 replyOne) :=
  ⟨⟨rfl, rfl, rfl⟩, ⟨rfl, rfl⟩, ⟨rfl, rfl⟩⟩

/-- A WRITE_ENTRY REQUEST of initiator 1 that announces a body of some length below 65536. -/
def announce (high low : Byte) : List Byte := (((ask 6#8 1#8 5#8 0#8).set 6 0x02#8).set 9 high).set 10 low

theorem test_witness_ManagementBodyIsGrantedAndTaken :
    (∃ f : List Byte, 4 ≤ f.length ∧ (arrive base .i f).takeNext .admission .i = some (f, taken (arrive base .i f) .i)
      ∧ (taken (arrive base .i f) .i).judge f = .manage 0 ∧ (readRequest f).direction = .dirOut ∧ (readRequest f).length = 1)
    ∧ (∃ f : List Byte, 4 ≤ f.length ∧ (arrive base .i f).takeNext .admission .i = some (f, taken (arrive base .i f) .i)
      ∧ (taken (arrive base .i f) .i).judge f = .manage 0 ∧ (readRequest f).direction = .dirOut ∧ (readRequest f).length = 300)
    ∧ ∃ f : List Byte, 4 ≤ f.length ∧ (arrive base .i f).takeNext .admission .i = some (f, taken (arrive base .i f) .i)
      ∧ (taken (arrive base .i f) .i).judge f = .manage 0 ∧ (readRequest f).direction = .dirOut ∧ (readRequest f).length = 301 :=
  ⟨⟨announce 0#8 1#8, by decide, rfl, rfl, by decide, by decide⟩,
   ⟨announce 1#8 44#8, by decide, rfl, rfl, by decide, by decide⟩,
   ⟨announce 1#8 45#8, by decide, rfl, rfl, by decide, by decide⟩⟩

/-- A body of IDENTIFY, which takes none, of some length; the frame that comes brings one byte of it. -/
def identifyBody (length : Nat) : Exchange :=
  { state := .mgmtBody, kind := .mgmt, initiator := 1, tag := 0x0B01#16, opcode := 0#8, direction := .dirOut, length := length, moved := 3,
    proceeded := some length, storedRequest := some (.inCells ((ask 1#8 0#8 0#8 0#8).set 6 0x02#8)), operation := some 1#8 }

/-- With a length of five bytes the frame is not the last; with four it completes the body. -/
theorem test_witness_ManagementBodyIsGrantedAndTaken_by_body :
    dataFormOk lastBody = true ∧ (0x01#8, MgmtOp.identify, Instr.identify) ∈ mgmtCommands ∧ MgmtOp.identify ≠ .writeEntry
    ∧ ∀ n ∈ [4, 5], let x := identifyBody n; let s := inUse (arrive base .i lastBody) 0 x
      s.taking .i 0x03#8 lastBody (taken s .i) ∧ (taken s .i).matchInitiator lastBody = some (0, x) ∧ x.state = .mgmtBody ∧ x.parked = none
        ∧ dataOffset lastBody = x.moved ∧ x.moved + dataLength lastBody ≤ x.proceeded.getD 0
        ∧ (x.moved + dataLength lastBody = x.length ↔ n = 4) ∧ (requestParams x.requestBytes).head? = some 0x01#8 := by
  refine ⟨by decide, .head _, nofun, fun n hn => ?_⟩
  fin_cases hn <;> exact ⟨⟨rfl, rfl, by decide⟩, rfl, rfl, rfl, rfl, by decide, by decide, rfl⟩

/-- A frame waits on T0 while entry 0 is in use. -/
def fromTarget (f : List Byte) (x : Exchange) : State := inUse (arrive base .t0 f) 0 x

/-- A frame of initiator 1 waits on port I while entry 0 is in use. -/
def fromInitiator (f : List Byte) (x : Exchange) : State := inUse (arrive base .i f) 0 x

/-- Initiator DATA for the write, 512 bytes at offset 512. -/
def data1024 : List Byte := [0x03#8, 0x10#8, 0x05#8, 0#8, 0#8, 2#8, 0#8, 0#8, 2#8, 0#8, 0#8, 0#8] ++ List.replicate 512 7#8

/-- The held exchange of request h. -/
def heldExchange : Exchange :=
  { writeExchange with
    state := .held, tag := 0x0A11#16, length := 512, proceeded := some 0,
    routing := some { link := .t0, unit := 0x10#8, block := 0, commandSent := false },
    storedRequest := some (.inCells requestH), deadline := some { kind := .hold, due := 900#32 } }

/-- A frame of kind k on tag 0040h, its form bad for every kind. -/
def short0040 (k : Byte) : List Byte := targetFrame k [0#8]

/-- The read with a STATUS parked behind waiting DATA. -/
def parkedRead : Exchange := { readExchange with dataWaiting := 1, parked := some { code := 0#8, residue := 0, detail := [], cells := 1 } }

/-- The read while DATA waits, and in ABORTING, closed or not. -/
def waitingRead : Exchange := { readExchange with dataWaiting := 1 }
def abortingRead (closed : Bool) : Exchange :=
  { readExchange with state := .aborting, closed := closed, origin := some .timeout, deadline := some { kind := .grace, due := 1000#32 } }

/-- A management exchange of the pair of `readExchange`: no target serves it. -/
def unrouted : Exchange :=
  { state := .mgmtBody, kind := .mgmt, initiator := 3, tag := 0x0A10#16, opcode := 0#8, direction := .dirOut, length := 4, proceeded := some 4,
    deadline := some { kind := .body, due := 1000#32 } }

/-- Exchange control takes that frame from T0 next, entry 0 being in use. -/
theorem takes0040 (x : Exchange) : ∀ k ∈ [0x02#8, 0x03#8, 0x04#8, 0x06#8],
    (fromTarget (short0040 k) x).taking .t0 k (short0040 k) (taken (fromTarget (short0040 k) x) .t0) := by
  simp only [List.forall_mem_cons, List.not_mem_nil, false_imp_iff, implies_true, and_true]
  exact ⟨⟨rfl, rfl, by decide +revert⟩, ⟨rfl, rfl, by decide +revert⟩, ⟨rfl, rfl, by decide +revert⟩, ⟨rfl, rfl, by decide +revert⟩⟩

/-- Witness of TargetMatchTakesSevenConditions: a tag that each condition of R16 stops, and one that matches. -/
theorem test_witness_TargetMatchTakesSevenConditions :
    let m := fun (x : Exchange) (f : List Byte) => (fromTarget f x).matchTarget .t0 f
    let r : EntryRef := { index := 0, inc := 1 }
    m readExchange [3#8, 0#8, 1#8, 0#8] = .stale .tagRange none ∧ m readExchange [3#8, 0x10#8, 0#8, 0x40#8] = .stale .initiatorId none
    ∧ (arrive base .t0 (short0040 3#8)).matchTarget .t0 (short0040 3#8) = .stale .entryFree (some r)
    ∧ m readExchange [3#8, 0#8, 0#8, 0x80#8] = .stale .incarnation (some { index := 0, inc := 2 })
    ∧ m unrouted (short0040 3#8) = .stale .notData (some r)
    ∧ m { readExchange with routing := some { routed with link := .t1 } } (short0040 3#8) = .stale .otherLink (some r)
    ∧ m unsentExchange (short0040 3#8) = .stale .notSent (some r) ∧ m readExchange (short0040 3#8) = .matched 0 readExchange routed := by
  and_intros <;> rfl

set_option maxRecDepth 20000 in
theorem test_witness_StaleFramesAreDropped :
    (∀ k ∈ [0x02#8, 0x03#8, 0x04#8, 0x06#8],
      (∃ (s u : State) (f : List Byte) (d : StaleDetail) (r : Option EntryRef), s.taking .t0 k f u ∧ u.matchTarget .t0 f = .stale d r)
      ∧ ∃ (s u : State) (f : List Byte) (i : EntryIndex) (x : Exchange) (g : Routing), s.taking .t0 k f u ∧ u.matchTarget .t0 f = .matched i x g
          ∧ x.parked ≠ none)
    ∧ (∃ (s u : State) (f : List Byte) (i : EntryIndex) (x : Exchange) (g : Routing), s.taking .t0 0x06#8 f u ∧ u.matchesOpen .t0 f i x g)
    ∧ (∀ x ∈ [heldExchange, { abortingRead false with initiator := 1, tag := 0x0A11#16 }],
        ∃ (s u : State) (f : List Byte) (i : EntryIndex), s.taking .i 0x03#8 f u ∧ u.matchInitiator f = some (i, x) ∧ x.parked = none)
    ∧ ∃ (s u : State) (f : List Byte), s.taking .i 0x03#8 f u ∧ u.matchInitiator f = none := by
  refine ⟨fun k hk => ⟨⟨_, _, _, .notSent, some { index := 0, inc := 1 }, takes0040 unsentExchange k hk, ?_⟩,
      ⟨_, _, _, 0, parkedRead, routed, takes0040 parkedRead k hk, ?_, nofun⟩⟩,
    ⟨_, _, _, 0, readExchange, routed, takes0040 readExchange 6#8 (by decide), rfl, .inr rfl, rfl⟩, ?_,
    ⟨arrive base .i data1024, taken (arrive base .i data1024) .i, data1024, ⟨rfl, rfl, by decide⟩, rfl⟩⟩
  · fin_cases hk <;> rfl
  · fin_cases hk <;> rfl
  · simp only [List.forall_mem_cons, List.not_mem_nil, false_imp_iff, implies_true, and_true]
    exact ⟨⟨fromInitiator ([3#8, 0x10#8, 0x0A#8, 0x11#8] ++ dataFrom512) heldExchange,
      taken (fromInitiator ([3#8, 0x10#8, 0x0A#8, 0x11#8] ++ dataFrom512) heldExchange) .i, _, 0, ⟨rfl, rfl, by decide⟩, rfl, rfl⟩,
      ⟨fromInitiator ([3#8, 0x10#8, 0x0A#8, 0x11#8] ++ dataFrom512) { abortingRead false with initiator := 1, tag := 0x0A11#16 },
      taken (fromInitiator ([3#8, 0x10#8, 0x0A#8, 0x11#8] ++ dataFrom512) { abortingRead false with initiator := 1, tag := 0x0A11#16 }) .i, _, 0,
      ⟨rfl, rfl, by decide⟩, rfl, rfl⟩⟩

set_option maxRecDepth 20000 in
theorem test_witness_AbortingDiscards :
    (∀ k ∈ [0x02#8, 0x03#8, 0x04#8, 0x06#8], ∃ (s u : State) (x : Exchange) (c : Instr), s.taking .t0 k (short0040 k) u
      ∧ u.matchesAborting .t0 (short0040 k) 0 x routed ∧ (k, c) ∈ targetFrames .t0)
    ∧ statusFormOk (short0040 4#8) = false ∧ abortDoneFormOk (short0040 6#8) = false := by
  refine ⟨?_, rfl, rfl⟩
  intro k hk
  refine ⟨_, _, abortingRead false, ((targetFrames .t0).lookup k).getD .verdict, takes0040 (abortingRead false) k hk, ⟨?_, rfl, rfl⟩, ?_⟩
  · fin_cases hk <;> rfl
  · fin_cases hk <;> simp [targetFrames, List.lookup]

/-- A PROCEED of 512 bytes, and DATA of 4 bytes at offset 512, each on tag 0040h. -/
def proceed512 : List Byte := targetFrame 2#8 [0#8, 2#8, 0#8, 0#8]
def dataOn0040 : List Byte := targetFrame 3#8 dataFrom512

/-- The read with 516 bytes to move in all. -/
def lastRead : Exchange := { readExchange with length := 516 }

set_option maxRecDepth 20000 in
theorem test_witness_ProceedAndDataAreForwarded :
    (∃ (s u : State) (f : List Byte) (i : EntryIndex) (x : Exchange) (g : Routing) (p : Nat), s.taking .t0 0x02#8 f u ∧ u.matchesOpen .t0 f i x g
        ∧ proceedFormOk f = true ∧ x.direction = .dirOut ∧ x.proceeded = some p
      ∧ p + proceedWindow f = x.length ∧ (u.port .i).state = .up)
    ∧ ∃ (s u : State) (f : List Byte) (i : EntryIndex) (x : Exchange) (g : Routing), s.taking .t0 0x03#8 f u ∧ u.matchesOpen .t0 f i x g
        ∧ dataFormOk f = true ∧ x.direction = .dirIn ∧ dataOffset f = x.moved
      ∧ x.moved + dataLength f = x.length ∧ (u.port .i).state = .up :=
  ⟨⟨fromTarget proceed512 writeExchange, taken (fromTarget proceed512 writeExchange) .t0, proceed512, 0, writeExchange, routed, 1024,
    ⟨rfl, rfl, by decide⟩, ⟨rfl, .inr rfl, rfl⟩, by decide, rfl, rfl, by decide, rfl⟩,
   ⟨fromTarget dataOn0040 lastRead, taken (fromTarget dataOn0040 lastRead) .t0, dataOn0040, 0, lastRead, routed,
    ⟨rfl, rfl, by decide⟩, ⟨rfl, .inr rfl, rfl⟩, by decide, rfl, by decide, by decide, rfl⟩⟩

/-- A STATUS and an ABORT_DONE on tag 0040h. -/
def statusOn0040 : List Byte := targetFrame 4#8 statusGood
def doneOn0040 : List Byte := targetFrame 6#8 [1#8, 0#8, 0#8, 0#8]

theorem test_witness_StatusIsForwardedOrParked :
    (∃ (s u : State) (f : List Byte) (i : EntryIndex) (x : Exchange) (g : Routing), s.taking .t0 0x04#8 f u ∧ u.matchesOpen .t0 f i x g
        ∧ statusFormOk f = true ∧ (u.port .i).state = .up ∧ x.dataWaiting = 0)
    ∧ ∃ (s u : State) (f : List Byte) (i : EntryIndex) (x : Exchange) (g : Routing), s.taking .t0 0x04#8 f u ∧ u.matchesOpen .t0 f i x g
        ∧ statusFormOk f = true ∧ (u.port .i).state = .up ∧ 0 < x.dataWaiting :=
  ⟨⟨fromTarget statusOn0040 readExchange, taken (fromTarget statusOn0040 readExchange) .t0, statusOn0040, 0, readExchange, routed,
    ⟨rfl, rfl, by decide⟩, ⟨rfl, .inr rfl, rfl⟩, by decide, rfl, rfl⟩,
   ⟨fromTarget statusOn0040 waitingRead, taken (fromTarget statusOn0040 waitingRead) .t0, statusOn0040, 0, waitingRead, routed,
    ⟨rfl, rfl, by decide⟩, ⟨rfl, .inr rfl, rfl⟩, by decide, rfl, by decide⟩⟩

theorem test_witness_TargetAnswerEndsAbort :
    ∀ closed, (∃ (s u : State) (f : List Byte) (i : EntryIndex) (x : Exchange) (g : Routing), s.taking .t0 0x04#8 f u
        ∧ u.matchesAborting .t0 f i x g ∧ statusFormOk f = true ∧ (u.port .i).state = .up ∧ x.closed = closed)
    ∧ ∃ (s u : State) (f : List Byte) (i : EntryIndex) (x : Exchange) (g : Routing), s.taking .t0 0x06#8 f u ∧ u.matchesAborting .t0 f i x g
        ∧ abortDoneFormOk f = true ∧ (u.port .i).state = .up ∧ x.closed = closed :=
  fun closed =>
  ⟨⟨fromTarget statusOn0040 (abortingRead closed), taken (fromTarget statusOn0040 (abortingRead closed)) .t0, statusOn0040, 0, abortingRead closed,
      routed,
    ⟨rfl, rfl, by decide⟩, ⟨rfl, rfl, rfl⟩, by decide, rfl, rfl⟩,
   ⟨fromTarget doneOn0040 (abortingRead closed), taken (fromTarget doneOn0040 (abortingRead closed)) .t0, doneOn0040, 0, abortingRead closed, routed,
    ⟨rfl, rfl, by decide⟩, ⟨rfl, rfl, rfl⟩, by decide, rfl, rfl⟩⟩

/-- The write with 512 of its 1024 granted bytes moved. -/
def halfWrite : Exchange := { writeExchange with moved := 512 }

set_option maxRecDepth 20000 in
theorem test_witness_InitiatorDataIsForwarded :
    ∃ (s u : State) (f : List Byte) (i : EntryIndex) (x : Exchange) (g : Routing), s.taking .i 0x03#8 f u ∧ u.matchInitiator f = some (i, x)
        ∧ x.state = .moving ∧ x.parked = none ∧ x.routing = some g
      ∧ dataFormOk f = true ∧ x.direction = .dirOut ∧ dataOffset f = x.moved ∧ x.moved + dataLength f = x.proceeded.getD 0
      ∧ (u.port (targetPort g.link)).state = .up :=
  ⟨fromInitiator data1024 halfWrite, taken (fromInitiator data1024 halfWrite) .i, data1024, 0, halfWrite, routed,
   ⟨rfl, rfl, by decide⟩, by decide, rfl, rfl, rfl, by decide, rfl, by decide, by decide, rfl⟩

set_option maxRecDepth 20000 in
/-- Frames of T0 that a check of R62, R63 or R65 turns away, each with its exchange: form, direction, offset, beyond the length. -/
theorem test_witness_TargetViolationsEndExchange :
    (∀ k ∈ [0x02#8, 0x03#8, 0x04#8], ∃ (s u : State), s.taking .t0 k (short0040 k) u ∧ u.matchesOpen .t0 (short0040 k) 0 readExchange routed
      ∧ (proceedFormOk (short0040 k) = false ∧ dataFormOk (short0040 k) = false ∧ statusFormOk (short0040 k) = false))
    ∧ (∀ f ∈ [proceed512, dataOn0040], ∃ (s u : State) (x : Exchange), s.taking .t0 (byteAt f 0) f u ∧ u.matchesOpen .t0 f 0 x routed
        ∧ (byteAt f 0 = 2#8 → proceedFormOk f = true ∧ x.direction ≠ .dirOut) ∧ (byteAt f 0 = 3#8 → dataFormOk f = true ∧ x.direction ≠ .dirIn))
    ∧ (proceedFormOk proceed512 = true ∧ { writeExchange with length := 1535 }.length < 1024 + proceedWindow proceed512)
    ∧ (dataFormOk dataOn0040 = true ∧ dataOffset dataOn0040 ≠ { lastRead with moved := 0 }.moved)
    ∧ (dataOffset dataOn0040 = lastRead.moved ∧ { lastRead with length := 515 }.length < lastRead.moved + dataLength dataOn0040) := by
  refine ⟨fun k hk => ⟨_, _, takes0040 readExchange k (by revert k; decide), ⟨?_, .inr rfl, rfl⟩, ?_⟩, ?_,
    ⟨by decide, by decide⟩, ⟨by decide, by decide⟩, by decide, by decide⟩
  · fin_cases hk <;> rfl
  · fin_cases hk <;> exact ⟨rfl, rfl, rfl⟩
  · simp only [List.forall_mem_cons, List.not_mem_nil, false_imp_iff, implies_true, and_true]
    exact ⟨⟨fromTarget proceed512 readExchange, taken (fromTarget proceed512 readExchange) .t0, readExchange, ⟨rfl, rfl, by decide⟩,
        ⟨rfl, .inr rfl, rfl⟩, fun _ => ⟨by decide, nofun⟩, by decide⟩,
      ⟨fromTarget dataOn0040 writeExchange, taken (fromTarget dataOn0040 writeExchange) .t0, writeExchange, ⟨rfl, rfl, by decide⟩,
        ⟨rfl, .inr rfl, rfl⟩, by decide, fun _ => ⟨by decide, nofun⟩⟩⟩

/-- Body DATA of initiator 1, one byte at offset 512, and its malformed form. -/
def oneAt512 : List Byte := [0x03#8, 0x10#8, 0x05#8, 0#8, 0#8, 2#8, 0#8, 0#8, 0#8, 1#8, 0#8, 0#8, 7#8]
def badData : List Byte := [0x03#8, 0x10#8, 0x05#8, 0#8]

set_option maxRecDepth 20000 in
/-- Every form of exchange that InitiatorViolationsEndExchange speaks of takes such DATA, and each of its details is met. -/
theorem test_witness_InitiatorViolationsEndExchange :
    (∀ f ∈ [oneAt512, badData], ∀ x ∈ [halfWrite, { halfWrite with moved := 0 }, { halfWrite with proceeded := some 512 },
        { halfWrite with state := .issued, routing := some { routed with commandSent := false }, storedRequest := some .inQueue },
        { halfWrite with direction := .dirIn }, { halfWrite with kind := .mgmt, state := .mgmtBody, routing := none },
        { halfWrite with kind := .mgmt, state := .mgmtAnswer, routing := none },
            { halfWrite with kind := .queryReply, state := .replying, routing := none },
        { halfWrite with parked := parkedRead.parked }],
      ∃ u, (fromInitiator f x).taking .i 0x03#8 f u ∧ u.matchInitiator f = some (0, x))
    ∧ dataFormOk badData = false ∧ dataFormOk oneAt512 = true ∧ dataOffset oneAt512 = halfWrite.moved
    ∧ dataOffset oneAt512 ≠ { halfWrite with moved := 0 }.moved ∧ (some 512).getD 0 < halfWrite.moved + dataLength oneAt512 := by
  refine ⟨?_, rfl, rfl, by decide, by decide, by decide⟩
  intro f hf x hx
  refine ⟨taken (fromInitiator f x) .i, ⟨rfl, ?_, ?_⟩, ?_⟩
  · fin_cases hf <;> rfl
  · fin_cases hf <;> decide
  · fin_cases hf <;> fin_cases hx <;> rfl

/-- ABORT of the pair of `readExchange`. -/
def abortRead : List Byte := [0x05#8, 0x30#8, 0x0A#8, 0x10#8, 0#8, 0#8, 0#8, 0#8]

/-- The ABORT waits on port I while entry 0, of its pair, is in use and one REQUEST of that entry waits on T0. -/
def abortMeets (x : Exchange) : State :=
  queueing (fromInitiator abortRead x) .t0
    [{ content := .stored { initiator := 0, tag := 0x0040#16, body := .request 0x10#8 0x30#8 .dirIn 4096 0 8 [] } 1, entry := some { index := 0, inc := 1 } }]

theorem test_witness_AbortsFromInitiator :
    (∃ (s u : State) (f : List Byte), s.taking .i 0x05#8 f u ∧ abortFormOk f = false)
    ∧ (∃ (s u : State) (f : List Byte), s.taking .i 0x05#8 f u ∧ abortFormOk f = true ∧ (∀ i, ¬(u.entry i).holdsPair (frameInitiator f) (frameTag f))
        ∧ (u.port .i).state = .up)
    ∧ (∀ x ∈ [abortingRead false, parkedRead, unrouted, unsentExchange, { heldExchange with initiator := 3, tag := 0x0A10#16 }, readExchange],
        ∃ u, (abortMeets x).taking .i 0x05#8 abortRead u ∧ u.matchInitiator abortRead = some (0, x) ∧ (u.port .i).state = .up)
    ∧ abortFormOk abortRead = true ∧ (abortingRead false).state = .aborting ∧ parkedRead.parked ≠ none
    ∧ ¬unrouted.awaitsTarget ∧ ¬unsentExchange.awaitsTarget ∧ ¬heldExchange.awaitsTarget ∧ readExchange.awaitsTarget := by
  refine ⟨⟨arrive base .i (abortRead.take 7), taken (arrive base .i (abortRead.take 7)) .i, abortRead.take 7, ⟨rfl, rfl, by decide⟩, rfl⟩,
   ⟨arrive base .i abortRead, taken (arrive base .i abortRead) .i, abortRead, ⟨rfl, rfl, by decide⟩, by decide,
    by unfold Entry.holdsPair; decide, rfl⟩, ?_, rfl, rfl, nofun, nofun, nofun, nofun, rfl, rfl⟩
  intro x hx
  refine ⟨taken (abortMeets x) .i, ⟨rfl, rfl, by decide⟩, ?_, rfl⟩
  fin_cases hx <;> rfl

theorem test_witness_ExchangeDeadlineExpires :
    (∃ (s : State) (i : EntryIndex) (x : Exchange), s.due i .exchange x ∧ x.awaitsTarget)
    ∧ ∃ (s : State) (i : EntryIndex) (x : Exchange), s.due i .exchange x ∧ ¬x.awaitsTarget :=
  ⟨⟨inUse base 0 readExchange, 0, readExchange, ⟨rfl, rfl, 1000#32, rfl, by decide⟩, rfl, rfl⟩,
   ⟨inUse base 0 unsentExchange, 0, unsentExchange, ⟨rfl, rfl, 1000#32, rfl, by decide⟩, nofun⟩⟩

theorem test_witness_EntryTimersFree :
    (∀ closed, ∃ (s : State) (i : EntryIndex) (x : Exchange), s.due i .grace x ∧ x.closed = closed)
        ∧ (∃ (s : State) (i : EntryIndex) (x : Exchange), s.due i .hold x) ∧ ∃ (s : State) (i : EntryIndex) (x : Exchange), s.due i .body x
            ∧ x.routing = none :=
  ⟨fun c => ⟨inUse base 0 (abortingRead c), 0, abortingRead c, ⟨rfl, rfl, 1000#32, rfl, by cases c <;> decide⟩, rfl⟩,
   ⟨holding, 0, heldExchange, rfl, rfl, 900#32, rfl, by decide⟩,
   ⟨inUse base 0 unrouted, 0, unrouted, ⟨rfl, rfl, 1000#32, rfl, by decide⟩, rfl⟩⟩

theorem test_witness_LeaseResendAndResyncDeadlinesExpire :
    (∃ (s : State) (l : Lease), s.resetPin = false ∧ s.lease = some l ∧ (s.clock - l.deadline).toNat < 2 ^ 31)
    ∧ (∃ (s : State) (b : Batch) (d : Clock), s.resetPin = false ∧ s.batch = some b ∧ b.resend = some d ∧ (s.clock - d).toNat < 2 ^ 31)
    ∧ ∃ (s : State) (d : Clock), s.resetPin = false ∧ s.resync = some d ∧ (s.clock - d).toNat < 2 ^ 31 :=
  ⟨⟨{ base with lease := some { owner := 1, deadline := 1000#32 } }, _, rfl, rfl, by decide⟩,
   ⟨batchSent, _, 1000#32, rfl, rfl, rfl, by decide⟩, ⟨{ base with resync := some 1000#32 }, 1000#32, rfl, rfl, by decide⟩⟩

/-- The reply exchange that `replying` holds. -/
def replyExchange (data : List Byte) (started : Bool) (waiting : Nat) : Exchange :=
  { state := .replying, kind := .queryReply, initiator := 1, tag := 0x0A12#16, opcode := 0x40#8, direction := .dirIn, length := 16,
    dataWaiting := waiting, view := some 1, replyRecord := some 1, snapshot := some { code := 0#8, data := data, started := started } }

theorem test_witness_ReplyServiceQueuesRuns :
    (∀ data, ∃ (s : State) (r : EntryRef) (rest : List EntryRef) (x : Exchange) (n : Snapshot), s.resetPin = false ∧ s.startList = r :: rest
      ∧ s.entry r.index = { inc := r.inc, exchange := some x } ∧ x.state = .replying ∧ x.snapshot = some n ∧ n.started = false
      ∧ (s.port .i).state = .up ∧ n.data = data ∧ (s.port .i).peerSegment = some 512)
    ∧ ∃ (s : State) (r : EntryRef) (rest : List EntryRef), s.resetPin = false ∧ s.startList = r :: rest ∧ ¬s.startPending r :=
  ⟨fun data => ⟨replying data, { index := 0, inc := 1 }, [], replyExchange data false 0, _, rfl, rfl, rfl, rfl, rfl, rfl, rfl, rfl, rfl⟩,
   ⟨{ base with startList := [{ index := 0, inc := 1 }] }, _, _, rfl, rfl, nofun⟩⟩

/-- A descriptor that records entry 0 at incarnation 1. -/
def onEntry0 (c : DescriptorContent) : Descriptor := { content := c, entry := some { index := 0, inc := 1 } }

/-- The head of T0's queue, with entry 0 in use. -/
def heading (p : Port) (d : Descriptor) (x : Exchange) : State := queueing (inUse base 0 x) p [d]

theorem test_witness_TransmissionCarriesHead :
    (∀ p d, (heading p d lastRead).resetPin = false ∧ ((heading p d lastRead).port p).state = .up ∧ ((heading p d lastRead).port p).peerCredit = 10
      ∧ ((heading p d lastRead).port p).peerSegment = some 512 ∧ ((heading p d lastRead).port p).egress = [d]
      ∧ (heading p d lastRead).entry 0 = { inc := 1, exchange := some lastRead })
    ∧ (∃ d : Descriptor, d.content = .made closing ∧ d.warmMark = false ∧ d.entry = none)
    ∧ (∃ d : Descriptor, d.content = .stored closing 1 ∧ d.isRequest = false ∧ d.isData = false ∧ d.warmMark = false
        ∧ d.entry = some { index := 0, inc := 1 })
    ∧ (∃ (d : Descriptor) (payload : List Byte), d.content = .stored (dataFrame 3 0x0A10#16 0 payload) 9 ∧ payload.length = d.progress + 513)
    ∧ (∃ (d : Descriptor) (payload : List Byte), d.content = .stored (dataFrame 3 0x0A10#16 0 payload) 9 ∧ payload.length = d.progress + 512)
    ∧ lastRead.closed = false ∧ lastRead.parked = none ∧ lastRead.snapshot = none ∧ lastRead.answer = none :=
  ⟨fun p d => (by cases p <;> exact ⟨rfl, rfl, rfl, rfl, rfl, rfl⟩), ⟨{ content := .made closing }, rfl, rfl, rfl⟩,
   ⟨onEntry0 (.stored closing 1), rfl, rfl, rfl, rfl, rfl⟩,
   ⟨onEntry0 (.stored (dataFrame 3 0x0A10#16 0 (List.replicate 513 1#8)) 9), _, rfl, List.length_replicate⟩,
   ⟨onEntry0 (.stored (dataFrame 3 0x0A10#16 0 (List.replicate 512 1#8)) 9), _, rfl, List.length_replicate⟩, rfl, rfl, rfl, rfl⟩

/-- Credit 0 at the head; and on T0 a DATA of two pieces whose entry is in ABORTING and closed. -/
theorem test_witness_TransmissionCarriesHead_waits :
    (∀ p, (({ heading p (onEntry0 (.run 0 [1#8])) lastRead with portI := { upPort 32 with peerCredit := 0 } } : State).port .i).peerCredit = 0)
    ∧ (base.port .i).egress = [] ∧ (State.reset.port .i).state ≠ .up
    ∧ ∃ (d : Descriptor) (payload : List Byte), d.content = .stored (dataFrame 0 0x0040#16 0 payload) 9 ∧ payload.length = d.progress + 513
      ∧ d.entry = some { index := 0, inc := 1 }
      ∧ (heading .t0 d (abortingRead true)).entry 0 = { inc := 1, exchange := some (abortingRead true) } ∧ (abortingRead true).closed = true :=
  ⟨fun _ => rfl, rfl, nofun, onEntry0 (.stored (dataFrame 0 0x0040#16 0 (List.replicate 513 1#8)) 9), _, rfl, List.length_replicate, rfl, rfl, rfl⟩

theorem test_witness_AlertFrameStartsResendDeadline :
    ∃ (s : State) (d : Descriptor) (rest : List Descriptor) (b : Batch) (l : Lease), s.resetPin = false ∧ (s.port .i).state = .up
      ∧ 1 ≤ (s.port .i).peerCredit ∧ (s.port .i).egress = d :: rest ∧ d.content = .alert ∧ d.warmMark = false ∧ s.batch = some b ∧ s.lease = some l
      ∧ b.size ≤ s.alerts.length ∧ b.sentOnce = false :=
  ⟨{ queueing batchSent .i [{ content := .alert }] with batch := some { size := 1, sequence := 0x0102#16, carried := 3, resend := none, sentOnce := false } },
   _, _, _, _, rfl, rfl, by decide, rfl, rfl, rfl, rfl, rfl, by decide, rfl⟩

/-- The rewritten REQUEST of entry 0. -/
def rewritten : Frame := { initiator := 0, tag := 0x0040#16, body := .request 0x10#8 0x30#8 .dirIn 4096 0 8 [] }

theorem test_witness_RequestTransmissionSetsSent :
    ∃ (s : State) (d : Descriptor) (rest : List Descriptor) (f : Frame) (n : Nat) (r : EntryRef) (x : Exchange) (g : Routing), s.resetPin = false
        ∧ (s.port .t0).state = .up ∧ 1 ≤ (s.port .t0).peerCredit ∧ (s.port .t0).egress = d :: rest
      ∧ d.content = .stored f n ∧ d.isRequest = true ∧ d.warmMark = false ∧ d.entry = some r
      ∧ s.entry r.index = { inc := r.inc, exchange := some x } ∧ x.routing = some g ∧ x.storedRequest = some .inQueue :=
  ⟨heading .t0 (onEntry0 (.stored rewritten 1)) unsentExchange, _, [], rewritten, 1, { index := 0, inc := 1 }, unsentExchange, _,
   rfl, rfl, by decide, rfl, rfl, rfl, rfl, rfl, rfl, rfl, rfl⟩

/-- The exchanges whose last DATA leaves: a snapshot's, a management answer's, a read with a parked STATUS; and one with DATA behind it. -/
theorem test_witness_LastDataQueuesClosingFrame :
    (∀ d x, (heading .i d x).resetPin = false ∧ ((heading .i d x).port .i).state = .up ∧ ((heading .i d x).port .i).peerCredit = 10
      ∧ ((heading .i d x).port .i).peerSegment = some 512 ∧ ((heading .i d x).port .i).egress = [d]
      ∧ (heading .i d x).entry 0 = { inc := 1, exchange := some x })
    ∧ (∃ x : Exchange, x.closed = false ∧ x.snapshot ≠ none ∧ x.parked = none ∧ x.dataWaiting = 1 ∧ x.moved + 16 = x.moveBound)
    ∧ (∃ x : Exchange, x.closed = false ∧ x.snapshot = none ∧ x.answer ≠ none ∧ x.parked = none ∧ x.dataWaiting = 1 ∧ x.moved + 16 = x.moveBound)
    ∧ (∃ x : Exchange, x.closed = false ∧ x.snapshot ≠ none ∧ x.dataWaiting = 2 ∧ x.moved + 16 = x.moveBound)
    ∧ (parkedRead.closed = false ∧ parkedRead.parked ≠ none ∧ parkedRead.dataWaiting = 1)
    ∧ ∃ (d : Descriptor) (payload : List Byte), d.content = .stored (dataFrame 3 0x0A10#16 0 payload) 9 ∧ payload.length = d.progress + 512
        ∧ d.entry = some { index := 0, inc := 1 } :=
  ⟨fun _ _ => ⟨rfl, rfl, rfl, rfl, rfl, rfl⟩, ⟨replyExchange (List.replicate 16 1#8) true 1, rfl, nofun, rfl, rfl, rfl⟩,
   ⟨{ replyExchange [] true 1 with snapshot := none, answer := some { code := 0#8, length := 16 } }, rfl, rfl, nofun, rfl, rfl, rfl⟩,
   ⟨replyExchange (List.replicate 16 1#8) true 2, rfl, nofun, rfl, rfl⟩, ⟨rfl, nofun, rfl⟩,
   ⟨onEntry0 (.stored (dataFrame 3 0x0A10#16 0 (List.replicate 512 1#8)) 9), _, rfl, List.length_replicate, rfl⟩⟩

theorem test_witness_StaleHeadIsDiscarded :
    (∀ p, ∃ (s : State) (d : Descriptor) (rest : List Descriptor) (r : EntryRef), s.resetPin = false ∧ (s.port p).state = .up
        ∧ 1 ≤ (s.port p).peerCredit ∧ (s.port p).egress = d :: rest
      ∧ d.entry = some r ∧ d.isData = true ∧ (s.entry r.index).exchange = none)
    ∧ (∀ p, ∃ (s : State) (d : Descriptor) (rest : List Descriptor) (r : EntryRef), s.resetPin = false ∧ (s.port p).state = .up
        ∧ 1 ≤ (s.port p).peerCredit ∧ (s.port p).egress = d :: rest ∧ d.entry = some r ∧ d.isData = true ∧ (s.entry r.index).inc ≠ r.inc)
    ∧ ∀ x : Exchange, ∃ (s : State) (d : Descriptor) (rest : List Descriptor) (r : EntryRef), s.resetPin = false ∧ (s.port .i).state = .up
        ∧ 1 ≤ (s.port .i).peerCredit ∧ (s.port .i).egress = d :: rest ∧ d.entry = some r ∧ d.isData = true ∧ s.entry r.index = { inc := r.inc, exchange := some x } :=
  ⟨fun p => ⟨queueing base p [onEntry0 (.run 0 [1#8])], _, [], { index := 0, inc := 1 }, by cases p <;> exact ⟨rfl, rfl, by decide, rfl, rfl, rfl, rfl⟩⟩,
   fun p => ⟨queueing (inUse base 0 readExchange) p [{ content := .run 0 [1#8], entry := some { index := 0, inc := 2 } }], _, [],
       { index := 0, inc := 2 },
    by cases p <;> exact ⟨rfl, rfl, by decide, rfl, rfl, rfl, by decide⟩⟩,
   fun x => ⟨heading .i (onEntry0 (.run 0 [1#8])) x, _, [], { index := 0, inc := 1 }, rfl, rfl, show 1 ≤ 10 by decide, rfl, rfl, rfl, rfl⟩⟩

theorem test_witness_WarmResetTakesEffect :
    ∃ (s : State) (d : Descriptor) (rest : List Descriptor) (f : Frame), s.resetPin = false ∧ (s.port .i).state = .up ∧ 1 ≤ (s.port .i).peerCredit
        ∧ (s.port .i).egress = d :: rest
      ∧ d.content = .made f ∧ d.warmMark = true :=
  ⟨queueing mixed .i [{ content := .made closing, warmMark := true }], _, [], closing, rfl, rfl, by decide, rfl, rfl, rfl⟩

/-- The management exchange of a REQUEST of initiator 1. -/
def asked (a b c d : Byte) : Exchange := managementExchange (ask a b c d)

theorem test_witness_OperationChecksInOrder :
    (asked 0x10#8 0#8 0#8 0#8).namedOp = none ∧ (asked 3#8 0#8 0#8 0#8).namedOp = some .renew ∧ MgmtOp.renew.leaseClass = true
    ∧ (asked 1#8 0#8 0#8 0#8).namedOp = some .identify ∧ MgmtOp.identify.leaseClass = false
    ∧ base.bootstrap = false ∧ base.hasMgmtRight 5 = false ∧ base.hasMgmtRight 1 = true ∧ State.reset.bootstrap = true
    ∧ (∀ l, base.lease = some l → l.owner ≠ 1) ∧ ∃ l : Lease, (asking 3#8 0#8 0#8 0#8).lease = some l ∧ l.owner = 1 :=
  ⟨by decide, by decide, rfl, by decide, rfl, rfl, rfl, rfl, rfl, nofun, _, rfl, rfl⟩

theorem test_witness_PerformanceConcludes :
    (∃ (x : Exchange) (r : OpResult), (r.state.port .i).state = .up ∧ r.answer = [] ∧ r.after = .nothing ∧ x.direction = .dirIn)
    ∧ (∃ r : OpResult, (r.state.port .i).state = .up ∧ r.answer = [] ∧ r.after = .markWarmReset)
    ∧ (∃ r : OpResult, (r.state.port .i).state = .up ∧ r.answer = [] ∧ r.after = .revokeLease ∧ r.state.lease = none)
    ∧ (∃ (r : OpResult) (l : Lease), (r.state.port .i).state = .up ∧ r.answer = [] ∧ r.after = .revokeLease ∧ r.state.lease = some l)
    ∧ ∃ (x : Exchange) (r : OpResult), (r.state.port .i).state = .up
        ∧ 1 ≤ min r.answer.length (min (if x.direction = .dirIn then x.length else 0) (64 * r.state.freeCells)) ∧ x.parked = none ∧ x.snapshot = none
        ∧ (r.state.port .i).peerSegment = some 512 :=
  ⟨⟨asked 1#8 0#8 0#8 0#8, refuseOp base 0xE8#8, rfl, rfl, rfl, by decide⟩, ⟨opWarmReset base, rfl, rfl, rfl⟩,
   ⟨{ state := base, answer := [], code := 0#8, after := .revokeLease }, rfl, rfl, rfl, rfl⟩,
   ⟨{ state := batchSent, answer := [], code := 0#8, after := .revokeLease }, _, rfl, rfl, rfl, rfl⟩,
   ⟨asked 1#8 0#8 0#8 0#8, { state := base, answer := [0#8], code := 0#8 }, rfl, by decide, rfl, rfl, rfl⟩⟩

/-- The state in which the operation of a verdict is performed, the REQUEST opening entry i. -/
def opening (s : State) (f : List Byte) (i : EntryIndex) : State := (taken s .i).opened f i

/-- The next verdict performs the operation of `f` on entry i, and its initiator may manage and owns the lease: the premise of the statements on
operations performed at a verdict. -/
def mayAsk (s : State) (f : List Byte) (i : EntryIndex) : Prop :=
  s.atVerdict f (taken s .i) i ∧ (opening s f i).mayManage (readRequest f).initiator = true
    ∧ (opening s f i).ownsLease (readRequest f).initiator = true

theorem mayAsk_of {s : State} {f : List Byte} {i : EntryIndex} (h0 : s.resetPin = false)
    (h1 : s.takeNext .admission .i = some (f, taken s .i))
    (h : (decide (4 ≤ f.length) && (taken s .i).judge f == .manage i && (readRequest f).direction == .dirIn
      && (opening s f i).mayManage (readRequest f).initiator && (opening s f i).ownsLease (readRequest f).initiator) = true) :
    mayAsk s f i := by
  simp only [Bool.and_eq_true, decide_eq_true_eq, beq_iff_eq] at h
  exact ⟨⟨h0, h1, h.1.1.1.1, h.1.1.1.2, fun w => by rw [h.1.1.2] at w; cases w.1⟩, h.1.2, h.2⟩

/-- Each check of an operation fails in some state: a table code and an index out of range, resync running, a body of no record; an entry index and
an incarnation out of range, the own entry, a FREE entry, one that is not HELD, another incarnation, a closed one, one with a parked STATUS. -/
theorem test_witness_OperationChecksInOrder_refusals :
    mayAsk (asking 1#8 0#8 0#8 0#8) (ask 1#8 0#8 0#8 0#8) 0 ∧ (0x01#8, MgmtOp.identify, Instr.identify) ∈ mgmtCommands
    ∧ (tableOf 0x05#8 = none ∧ tableOf 0x01#8 = some .initiators ∧ Table.initiators.size ≤ (16#8 : Byte).toNat
      ∧ (15#8 : Byte).toNat < Table.initiators.size)
    ∧ (∃ s : State, s.resync ≠ none) ∧ (base.resync = none ∧ base.stagingBank.withRecord .initiators 15 [] = none)
    ∧ 64 ≤ (64#8 : Byte).toNat ∧ 3 < (4#8 : Byte).toNat ∧ (base.entry 63).exchange = none
    ∧ ∀ y ∈ [heldExchange, readExchange, abortingRead true, parkedRead],
      ((inUse base 0 y).entry 0).exchange = some y ∧ ((inUse base 0 y).entry 0).inc.val ≠ (3#8 : Byte).toNat
        ∧ ((y.state = .held) = (y = heldExchange)) ∧ ((y.closed = true) = (y = abortingRead true)) ∧ ((y.parked ≠ none) = (y = parkedRead)) := by
  refine ⟨mayAsk_of rfl rfl rfl, .head _, by decide, ⟨{ base with resync := some 0#32 }, nofun⟩, ⟨rfl, rfl⟩, by decide, by decide, rfl,
    fun y hy => ?_⟩
  fin_cases hy <;> exact ⟨rfl, by decide, by decide, by decide, by decide⟩

/-- HOLD_LIST comes before and after the deadline of the one hold. -/
def listing (clock : Clock) : State := { askingHeld 10#8 0#8 0#8 0#8 with clock := clock }

theorem test_witness_ReadingOperationsAnswer :
    mayAsk (asking 1#8 0#8 0#8 0#8) (ask 1#8 0#8 0#8 0#8) 0
    ∧ mayAsk (asking 5#8 2#8 127#8 0#8) (ask 5#8 2#8 127#8 0#8) 0 ∧ tableOf 2#8 = some .views ∧ (127#8 : Byte).toNat < Table.views.size
    ∧ mayAsk (asking 5#8 4#8 31#8 1#8) (ask 5#8 4#8 31#8 1#8) 0 ∧ tableOf 4#8 = some .replies ∧ (31#8 : Byte).toNat < Table.replies.size
    ∧ mayAsk (asking 9#8 63#8 0#8 0#8) (ask 9#8 63#8 0#8 0#8) 0 ∧ (63#8 : Byte).toNat < 64
    ∧ (mayAsk (listing 899#32) (ask 10#8 0#8 0#8 0#8) 1
      ∧ (opening (listing 899#32) (ask 10#8 0#8 0#8 0#8) 1).holdQueue.map (State.holdOver (opening (listing 899#32) (ask 10#8 0#8 0#8 0#8) 1)) = [false])
    ∧ (mayAsk (listing 900#32) (ask 10#8 0#8 0#8 0#8) 1
      ∧ (opening (listing 900#32) (ask 10#8 0#8 0#8 0#8) 1).holdQueue.map (State.holdOver (opening (listing 900#32) (ask 10#8 0#8 0#8 0#8) 1)) = [true]
      ∧ ((opening (listing 900#32) (ask 10#8 0#8 0#8 0#8) 1).holdQueue.map fun h => h.entry.index).Nodup)
    ∧ mayAsk (asking 14#8 0#8 0#8 0#8) (ask 14#8 0#8 0#8 0#8) 0 := by
  refine ⟨mayAsk_of rfl rfl ?_, mayAsk_of rfl rfl ?_, rfl, by decide, mayAsk_of rfl rfl ?_, rfl, by decide, mayAsk_of rfl rfl ?_, by decide,
    ⟨mayAsk_of rfl rfl ?_, rfl⟩, ⟨mayAsk_of rfl rfl ?_, rfl, by decide⟩, mayAsk_of rfl rfl ?_⟩ <;> rfl

/-- A held exchange within the widths of 13.2. -/
theorem test_witness_PicturesFollowLayouts :
    (holding.entry 0).exchange = some heldExchange ∧ heldExchange.length < 2 ^ 24 ∧ heldExchange.moved < 2 ^ 24
        ∧ heldExchange.proceeded.getD 0 < 2 ^ 24
    ∧ heldExchange.view = some 1 ∧ heldExchange.storedRequest = some (.inCells requestH) ∧ (500 : Nat) < 2 ^ 16
    ∧ (∃ d, heldExchange.deadline = some d ∧ (d.due - (800#32 : Clock)).toNat < 2 ^ 16)
    ∧ ((base.port .i).peerSegment = some (64 * 8) ∧ (base.port .i).peerCredit < 2 ^ 16 ∧ (base.port .i).announced + (base.port .i).owed < 256) :=
  ⟨rfl, by decide, by decide, by decide, rfl, rfl, by decide, ⟨_, rfl, by decide⟩, rfl, by decide, by decide⟩

/-- A record of each table that is present, within the widths of 13.2, and one that is absent. -/
theorem test_witness_PicturesFollowLayouts_records :
    exampleBank.initiators.get 0 = none ∧ (exampleBank.initiators.get 1 = some reader ∧ reader.quota < 256 ∧ reader.leaseTime < 2 ^ 16)
    ∧ exampleBank.views.get 127 = none
    ∧ (exampleBank.views.get 0 = some viewZero ∧ viewZero.extent < 2 ^ 48 ∧ viewZero.holdWait < 2 ^ 16 ∧ viewZero.timeout < 2 ^ 16)
    ∧ exampleBank.replies.get 31 = none ∧ (exampleBank.replies.get 0 = some replyZero ∧ replyZero.selector = some 0#8)
    ∧ exampleBank.replies.get 1 = some replyOne ∧ replyOne.selector = none ∧ replyOne.data.length < 2 ^ 16 :=
  ⟨rfl, ⟨rfl, by decide, by decide⟩, rfl, ⟨rfl, by decide, by decide, by decide⟩, rfl, ⟨rfl, rfl⟩, rfl, rfl, by decide⟩

/-- Initiator 2 holds the lease that initiator 1 claims. -/
def claimedByTwo : State := { asking 2#8 0#8 0#8 0#8 with lease := some { owner := 2, deadline := 31000#32 } }

theorem test_witness_LeaseOperationsComplete :
    mayAsk (asking 2#8 0#8 0#8 0#8) (ask 2#8 0#8 0#8 0#8) 0 ∧ mayAsk (asking 3#8 0#8 0#8 0#8) (ask 3#8 0#8 0#8 0#8) 0
    ∧ mayAsk (asking 4#8 0#8 0#8 0#8) (ask 4#8 0#8 0#8 0#8) 0
    ∧ (claimedByTwo.atVerdict (ask 2#8 0#8 0#8 0#8) (taken claimedByTwo .i) 0 ∧ (opening claimedByTwo (ask 2#8 0#8 0#8 0#8) 0).mayManage 1 = true
      ∧ ∃ l : Lease, (opening claimedByTwo (ask 2#8 0#8 0#8 0#8) 0).lease = some l ∧ l.owner ≠ (readRequest (ask 2#8 0#8 0#8 0#8)).initiator) := by
  refine ⟨mayAsk_of rfl rfl ?_, mayAsk_of rfl rfl ?_, mayAsk_of rfl rfl ?_, ⟨rfl, rfl, ?_, ?_, ?_⟩, ?_, _, rfl, ?_⟩ <;> first | rfl | decide

/-- Initiator 1 asks for COMMIT while the other bank holds `b`. -/
def committing (b : Bank) : State := { asking 8#8 0#8 0#8 0#8 with bankB := b }

/-- A view that serves no initiator; initiator 1 without its record. -/
def faulty : Bank := { exampleBank with views := exampleBank.views.set 3 (some { viewThree with mask := 0#16 }) }
def withoutOne : Bank := { exampleBank with initiators := exampleBank.initiators.set 1 none }

theorem test_witness_StagingOperationsComplete_at_verdict :
    let f := ask 8#8 0#8 0#8 0#8
    mayAsk (asking 7#8 0#8 0#8 0#8) (ask 7#8 0#8 0#8 0#8) 0
    ∧ (mayAsk { committing exampleBank with resync := some 0#32 } f 0
        ∧ (opening { committing exampleBank with resync := some 0#32 } f 0).resync ≠ none)
    ∧ (mayAsk (committing faulty) f 0 ∧ (opening (committing faulty) f 0).resync = none
      ∧ (opening (committing faulty) f 0).stagingBank.firstFault = some (.views, 3))
    ∧ (mayAsk (committing exampleBank) f 0 ∧ (opening (committing exampleBank) f 0).stagingBank.firstFault = none
      ∧ ({ opening (committing exampleBank) f 0 with active := .b } : State).hasMgmtRight 1 = true)
    ∧ (mayAsk (committing withoutOne) f 0 ∧ (opening (committing withoutOne) f 0).stagingBank.firstFault = none
      ∧ ({ opening (committing withoutOne) f 0 with active := .b } : State).bootstrap = false
      ∧ ({ opening (committing withoutOne) f 0 with active := .b } : State).hasMgmtRight 1 = false) := by
  refine ⟨mayAsk_of rfl rfl ?_, ⟨mayAsk_of rfl rfl ?_, ?_⟩, ⟨mayAsk_of rfl rfl ?_, rfl, ?_⟩, ⟨mayAsk_of rfl rfl ?_, ?_, ?_⟩,
    mayAsk_of rfl rfl ?_, ?_, ?_, ?_⟩ <;> first | rfl | decide

/-- The exchange of `bodyWaiting`. -/
def bodyExchange : Exchange :=
  { state := .mgmtBody, kind := .mgmt, initiator := 1, tag := 0x0B01#16, opcode := 0#8, direction := .dirOut, length := 4,
    moved := 3, proceeded := some 4, storedRequest := some (.inCells ((ask 6#8 1#8 5#8 0#8).set 6 0x02#8)),
    operation := some 6#8, deadline := some { kind := .body, due := 1000#32 },
    bodyFrames := [[0x03#8, 0x10#8, 0x0B#8, 0x01#8, 0#8, 0#8, 0#8, 0#8, 0#8, 3#8, 0#8, 0#8, 0x07#8, 0x04#8, 0x00#8]] }

theorem test_witness_StagingOperationsComplete_by_body :
    let s := arrive bodyWaiting .i lastBody
    let u := taken s .i
    let v := u.setExchange 0 { bodyExchange with
      state := .mgmtAnswer, moved := bodyExchange.length, bodyFrames := bodyExchange.bodyFrames ++ [lastBody], deadline := none }
    (s.taking .i 0x03#8 lastBody u ∧ u.matchInitiator lastBody = some (0, bodyExchange) ∧ dataFormOk lastBody = true
      ∧ requestParams ((ask 6#8 1#8 5#8 0#8).set 6 0x02#8) = [0x06#8, 1#8, 5#8, 0#8] ∧ dataOffset lastBody = bodyExchange.moved
      ∧ bodyExchange.moved + dataLength lastBody = bodyExchange.length ∧ bodyExchange.length ≤ bodyExchange.proceeded.getD 0
      ∧ tableOf 1#8 = some .initiators ∧ (5#8 : Byte).toNat < Table.initiators.size)
    ∧ v.mayManage 1 = true ∧ v.ownsLease 1 = true ∧ v.resync = none
    ∧ (∃ b, v.stagingBank.withRecord .initiators 5 ((bodyExchange.bodyFrames ++ [lastBody]).flatMap dataPayload) = some b)
    ∧ v.stagingBank.withRecord .initiators 5 [0x07#8] = none :=
  ⟨⟨⟨rfl, rfl, by decide⟩, rfl, by decide, rfl, by decide, by decide, by decide, rfl, by decide⟩, rfl, rfl, rfl,
   ⟨_, rfl⟩, rfl⟩

/-- T0 is DOWN while the owner decides request h. -/
def askingUnserved : State := { askingHeld 11#8 0#8 1#8 1#8 with portT0 := {} }

/-- What HOLD_DECIDE finds of entry 0. -/
def decidable0 (v : State) : Prop :=
  (v.entry 0).exchange = some heldExchange ∧ (v.entry 0).inc.val = (1#8 : Byte).toNat ∧ heldExchange.state = .held
    ∧ heldExchange.storedRequest = some (.inCells requestH) ∧ (v.port .i).state = .up
    ∧ v.holdQueue.find? (fun k => k.entry.index = 0) = some { entry := { index := 0, inc := 1 }, timeoutMs := 500 }

theorem test_witness_OwnerOperationsComplete_holdDecide :
    (mayAsk (askingHeld 11#8 0#8 1#8 2#8) (ask 11#8 0#8 1#8 2#8) 1 ∧ decidable0 (opening (askingHeld 11#8 0#8 1#8 2#8) (ask 11#8 0#8 1#8 2#8) 1))
    ∧ (mayAsk (askingHeld 11#8 0#8 1#8 1#8) (ask 11#8 0#8 1#8 1#8) 1
      ∧ decidable0 (opening (askingHeld 11#8 0#8 1#8 1#8) (ask 11#8 0#8 1#8 1#8) 1)
      ∧ ((opening (askingHeld 11#8 0#8 1#8 1#8) (ask 11#8 0#8 1#8 1#8) 1).port .t0).state = .up)
    ∧ (mayAsk askingUnserved (ask 11#8 0#8 1#8 1#8) 1 ∧ decidable0 (opening askingUnserved (ask 11#8 0#8 1#8 1#8) 1)
      ∧ ((opening askingUnserved (ask 11#8 0#8 1#8 1#8) 1).port .t0).state ≠ .up) := by
  unfold decidable0
  refine ⟨⟨mayAsk_of rfl rfl ?_, ?_⟩, ⟨mayAsk_of rfl rfl ?_, ?_, ?_⟩, mayAsk_of rfl rfl ?_, ?_, ?_⟩ <;> first | rfl | decide

/-- The owner ends entry 5. -/
def ending (x : Exchange) : State := inUse (asking 13#8 5#8 1#8 0#8) 5 x

/-- What END_EXCHANGE finds of entry 5. -/
def endable5 (v : State) (x : Exchange) : Prop :=
  (v.entry 5).exchange = some x ∧ (v.entry 5).inc.val = (1#8 : Byte).toNat ∧ x.closed = false ∧ x.parked = none ∧ (v.port .i).state = .up

/-- END_EXCHANGE finds entry 5 in each of the conditions of R90. -/
theorem test_witness_OwnerOperationsComplete_endExchange :
    ∀ x ∈ [abortingRead false, readExchange, unrouted, unsentExchange, { heldExchange with initiator := 3 }],
      mayAsk (ending x) (ask 13#8 5#8 1#8 0#8) 0 ∧ endable5 (opening (ending x) (ask 13#8 5#8 1#8 0#8) 0) x := by
  unfold endable5
  intro x hx
  refine ⟨mayAsk_of rfl rfl ?_, ?_⟩
  · fin_cases hx <;> rfl
  · fin_cases hx <;> exact ⟨rfl, rfl, rfl, rfl, rfl⟩

theorem test_witness_OwnerOperationsComplete :
    (mayAsk (arrive batchSent .i (ask 12#8 1#8 2#8 0#8)) (ask 12#8 1#8 2#8 0#8) 0
      ∧ ∃ b, (opening (arrive batchSent .i (ask 12#8 1#8 2#8 0#8)) (ask 12#8 1#8 2#8 0#8) 0).batch = some b
          ∧ b.sequence = BitVec.ofNat 16 (1 * 256 + 2))
    ∧ (mayAsk (asking 12#8 1#8 2#8 0#8) (ask 12#8 1#8 2#8 0#8) 0 ∧ (opening (asking 12#8 1#8 2#8 0#8) (ask 12#8 1#8 2#8 0#8) 0).batch = none)
    ∧ mayAsk (asking 15#8 0#8 0#8 0#8) (ask 15#8 0#8 0#8 0#8) 0 := by
  refine ⟨⟨mayAsk_of rfl rfl ?_, _, rfl, ?_⟩, ⟨mayAsk_of rfl rfl ?_, rfl⟩, mayAsk_of rfl rfl ?_⟩ <;> rfl

/-- No entry of `base` is in use. -/
theorem base_free (i : EntryIndex) : (base.entry i).exchange = none := by
  have h : ∀ j : Fin 64, (base.entry j).exchange = none := by decide
  exact h i

/-- Witness of the eight statements EventsKeep… and of IncarnationsChangeAtAllocationAlone: `base` meets the invariants, and events run on it. -/
theorem test_witness_EventsKeepInvariants :
    base.settled ∧ base.linksOk ∧ base.cellsConserved ∧ base.deliveryOk ∧ base.holdsOk ∧ base.startOk ∧ base.exchangesOk ∧ base.pairsOk
        ∧ step base = .next base
    ∧ ∃ t, exec (.signalPresent .i) base = .next t := by
  refine ⟨⟨.inr fun p => by cases p <;> rfl, fun h => h.2.2 rfl⟩, ?_, by unfold State.cellsConserved; decide +kernel,
    ⟨by decide, by decide, fun b h => (by cases h), ⟨rfl, rfl, rfl⟩, fun h => (by cases h)⟩,
    ⟨fun i x h => (by rw [base_free i] at h; cases h), fun h w => (by cases w), fun i x h => (by rw [base_free i] at h; cases h), by decide,
        by decide⟩,
    ⟨by decide, by decide, fun h w => (by cases w), fun i x n h => (by rw [base_free i] at h; cases h)⟩,
    fun i x h => (by rw [base_free i] at h; cases h), fun n t i j h => (by unfold Entry.holdsPair at h; rw [base_free i] at h; cases h), rfl, _, rfl⟩
  intro p
  cases p <;> exact ⟨fun h => absurd rfl h, rfl, ⟨rfl, rfl⟩, ⟨by decide, by decide⟩, by decide, by decide, by decide⟩

end Sys2Proof.Tests
end

section
/-! The clock, its deadlines, and the expiries that are no event (R1; log entry 1). -/

namespace Sys2Proof.Machine

/-! ## The clock's comparison (R1) -/

theorem reached_eq_true_iff {c d : Clock} : reached c d = true ↔ (c - d).toNat < 2 ^ 31 := decide_eq_true_iff

theorem reached_eq_false_iff {c d : Clock} : reached c d = false ↔ 2 ^ 31 ≤ (c - d).toNat := by
  rw [reached, decide_eq_false_iff_not, Nat.not_lt]

/-- The deadline is reached at its own value and at the 2^31 - 1 values after it, across a wrap of the count. -/
theorem reached_add_ofNat (d : Clock) {n : Nat} (h : n < 2 ^ 31) : reached (d + BitVec.ofNat 32 n) d = true := by
  rw [reached_eq_true_iff, add_sub_cancel_left, BitVec.toNat_ofNat]
  omega

/-- The deadline is ahead at the 2^31 values before it, across a wrap of the count. -/
theorem reached_sub_ofNat (d : Clock) {n : Nat} (pos : 1 ≤ n) (h : n ≤ 2 ^ 31) : reached (d - BitVec.ofNat 32 n) d = false := by
  rw [reached_eq_false_iff, sub_sub_cancel_left, BitVec.toNat_neg, BitVec.toNat_ofNat]
  omega

/-! ## The tick of the clock (R1) -/

theorem clock_succ (c : Clock) : c + 1#32 = BitVec.ofNat 32 ((c.toNat + 1) % 2 ^ 32) := by
  apply BitVec.eq_of_toNat_eq
  rw [BitVec.toNat_add, BitVec.toNat_ofNat, BitVec.toNat_ofNat]
  omega

/-- With the reset pin released the clock advances, and the event is not followed by grants or a batch. -/
theorem exec_millisecondClockAdvance {s : State} (hp : s.resetPin = false) :
    exec .millisecondClockAdvance s = .next { s with clock := s.clock + 1#32 } :=
  plainEvent_occurs (f := clockTick) hp rfl

/-! ## When an expiry is no event

A command's meaning stands in its arm of exec; each expiry is absent exactly while every deadline it asks for lies ahead. -/

/-- The timer of an entry has expired for a kind of deadline exactly when it holds one of that kind that the clock has reached. -/
theorem State.expired_eq_some_iff {s : State} {i : EntryIndex} {k : DeadlineKind} {x : Exchange} :
    s.expired i k = some x ↔
      (s.entry i).exchange = some x ∧ ∃ d, x.deadline = some { kind := k, due := d } ∧ reached s.clock d = true := by
  constructor
  · intro h
    unfold State.expired at h
    split at h
    · cases h
    · next y he =>
      split at h
      · next t hd =>
        obtain ⟨⟨rfl, hr⟩, ⟨⟩⟩ := Option.ite_none_right_eq_some.1 h
        exact ⟨he, t.due, hd, hr⟩
      · cases h
  · rintro ⟨he, d, hd, hr⟩
    simp [State.expired, he, hd, hr]

theorem State.expired_eq_none_of_ahead {s : State} {i : EntryIndex} {k : DeadlineKind}
    (h : ∀ x d, (s.entry i).exchange = some x → x.deadline = some { kind := k, due := d } → 2 ^ 31 ≤ (s.clock - d).toNat) :
    s.expired i k = none := by
  refine Option.eq_none_iff_forall_ne_some.2 fun x hx => ?_
  obtain ⟨he, d, hd, hr⟩ := State.expired_eq_some_iff.1 hx
  rw [reached_eq_false_iff.2 (h x d he hd)] at hr
  cases hr

/-- The four expiries of an entry (R78, R84, R95, R138) ask for a deadline of their kind, and for nothing else. -/
theorem exec_entryExpiry_of_not_expired {s : State} {i : EntryIndex} {k : DeadlineKind} {c : Instr}
    (hc : (k, c) ∈ [(DeadlineKind.exchange, Instr.exchangeDeadlineExpiry i), (.hold, .holdExpiry i), (.grace, .graceExpiry i),
      (.body, .bodyDeadlineExpiry i)]) (h : s.expired i k = none) : exec c s = .next s := by
  simp only [List.mem_cons, List.not_mem_nil, or_false, Prod.mk.injEq] at hc
  obtain ⟨rfl, rfl⟩ | ⟨rfl, rfl⟩ | ⟨rfl, rfl⟩ | ⟨rfl, rfl⟩ := hc
  · exact event_absent (f := exchangeExpiryEvent i) (Option.map_eq_none_iff.2 h)
  · exact event_absent (f := holdExpiryEvent i) (Option.map_eq_none_iff.2 h)
  · exact event_absent (f := graceExpiryEvent i) (Option.map_eq_none_iff.2 h)
  · exact event_absent (f := bodyExpiryEvent i) (Option.map_eq_none_iff.2 h)

/-- The INIT wait is over exactly in INIT_WAIT with a deadline that the clock has reached (R129). -/
theorem State.initWaitOver_iff {s : State} {p : Port} :
    s.initWaitOver p = true ↔ (s.port p).state = .initWait ∧ ∃ d, (s.port p).initDeadline = some d ∧ reached s.clock d = true := by
  rw [State.initWaitOver, Bool.and_eq_true, beq_iff_eq, Option.any_eq_true]

theorem initWaitExpiryEvent_eq_none {s : State} {p : Port} (h : s.initWaitOver p = false) : initWaitExpiryEvent p s = none := by
  rw [initWaitExpiryEvent, h]
  rfl

theorem exec_initWaitExpiry_of_ahead {s : State} {p : Port}
    (h : ∀ d, (s.port p).state = .initWait → (s.port p).initDeadline = some d → 2 ^ 31 ≤ (s.clock - d).toNat) :
    exec (.initWaitExpiry p) s = .next s := by
  refine event_absent (f := initWaitExpiryEvent p) (initWaitExpiryEvent_eq_none (Bool.eq_false_iff.2 fun hover => ?_))
  obtain ⟨hs, d, hd, hr⟩ := State.initWaitOver_iff.1 hover
  rw [reached_eq_false_iff.2 (h d hs hd)] at hr
  cases hr

theorem leaseExpiryEvent_eq_none {s : State} (h : ∀ l, s.lease = some l → reached s.clock l.deadline = false) :
    leaseExpiryEvent s = none := by
  unfold leaseExpiryEvent
  cases hl : s.lease with
  | none => rfl
  | some l => simp [h l hl]

theorem resendExpiryEvent_eq_none {s : State} (h : ∀ b d, s.batch = some b → b.resend = some d → reached s.clock d = false) :
    resendExpiryEvent s = none := by
  unfold resendExpiryEvent
  cases hb : s.batch with
  | none => rfl
  | some b =>
    cases hd : b.resend with
    | none => simp [hd]
    | some d => simp [hd, h b d hb hd]

theorem resyncCompletionEvent_eq_none {s : State} (h : ∀ d, s.resync = some d → reached s.clock d = false) :
    resyncCompletionEvent s = none := by
  unfold resyncCompletionEvent
  cases hd : s.resync with
  | none => rfl
  | some d => simp [h d hd]

/-! ## The statement -/

/-- Settles O3: the tick and the comparison by arithmetic modulo 2^32; an expiry ahead of its deadline because its event is absent. -/
theorem clockAdvancesAndDeadlinesCompare : Obligations.ClockAdvancesAndDeadlinesCompare := by
  refine ⟨fun s hp => ?_, fun d n => ⟨reached_add_ofNat d, reached_sub_ofNat d⟩, fun s => ⟨?_, ?_, ?_, ?_, ?_⟩⟩
  · rw [exec_millisecondClockAdvance hp, clock_succ]
  · exact fun i k c hc ahead => exec_entryExpiry_of_not_expired hc (State.expired_eq_none_of_ahead ahead)
  · exact fun p ahead => exec_initWaitExpiry_of_ahead ahead
  · exact fun ahead => event_absent (leaseExpiryEvent_eq_none fun l hl => reached_eq_false_iff.2 (ahead l hl))
  · exact fun ahead => event_absent (resendExpiryEvent_eq_none fun b d hb hd => reached_eq_false_iff.2 (ahead b d hb hd))
  · exact fun ahead => event_absent (resyncCompletionEvent_eq_none fun d hd => reached_eq_false_iff.2 (ahead d hd))

end Sys2Proof.Machine
end

section
/-! The match of a target's frame (R12, R16). -/

namespace Sys2Proof.Machine

/-- The downstream tag of an entry at an incarnation reads back as that entry and incarnation (R12). -/
theorem decodedTag_eq {n : Nat} {r : EntryRef} (hi : r.index.val = n % 64) (hinc : r.inc.val = n / 64) : decodedTag n = r := by
  obtain ⟨index, inc⟩ := r
  simp only [decodedTag, EntryRef.mk.injEq, Fin.ext_iff, Fin.val_ofNat] at hi hinc ⊢
  omega

theorem State.matchTarget_of_tagRange {s : State} {t : Target} {f : List Byte} (h : 0xFF < (frameTag f).toNat) :
    s.matchTarget t f = .stale .tagRange none := by
  unfold State.matchTarget
  rw [if_pos h]

theorem State.matchTarget_of_initiatorId {s : State} {t : Target} {f : List Byte} (htag : (frameTag f).toNat ≤ 0xFF)
    (h : frameInitiator f ≠ 0) : s.matchTarget t f = .stale .initiatorId none := by
  unfold State.matchTarget
  rw [if_neg (Nat.not_lt.2 htag), if_pos h]

/-- Conditions 3 to 7 of R16, on the entry and incarnation that a tag names. -/
def State.matchAt (s : State) (t : Target) (r : EntryRef) : TargetMatch :=
  match (s.entry r.index).exchange with
  | none => .stale .entryFree (some r)
  | some x =>
    if (s.entry r.index).inc ≠ r.inc then .stale .incarnation (some r)
    else
      match x.routing with
      | none => .stale .notData (some r)
      | some g =>
        if g.link ≠ t then .stale .otherLink (some r)
        else if g.commandSent = false then .stale .notSent (some r)
        else .matched r.index x g

/-- Past conditions 1 and 2 the entry that the tag names decides. -/
theorem State.matchTarget_eq_matchAt {s : State} {t : Target} {f : List Byte} {r : EntryRef} (hn : frameInitiator f = 0)
    (hi : r.index.val = (frameTag f).toNat % 64) (hinc : r.inc.val = (frameTag f).toNat / 64) : s.matchTarget t f = s.matchAt t r := by
  have htag : ¬0xFF < (frameTag f).toNat := by have := r.inc.isLt; omega
  unfold State.matchTarget
  rw [if_neg htag, if_neg (not_not.2 hn), decodedTag_eq hi hinc]
  rfl

/-- Conditions 3 to 7, each as the first that fails. -/
theorem State.matchAt_cases (s : State) (t : Target) (r : EntryRef) :
    ((s.entry r.index).exchange = none → s.matchAt t r = .stale .entryFree (some r))
    ∧ ∀ x, (s.entry r.index).exchange = some x →
      ((s.entry r.index).inc ≠ r.inc → s.matchAt t r = .stale .incarnation (some r))
      ∧ ((s.entry r.index).inc = r.inc →
        (x.routing = none → s.matchAt t r = .stale .notData (some r))
        ∧ ∀ g, x.routing = some g →
          (g.link ≠ t → s.matchAt t r = .stale .otherLink (some r))
          ∧ (g.link = t → g.commandSent = false → s.matchAt t r = .stale .notSent (some r))) := by
  unfold State.matchAt
  refine ⟨fun hx => by rw [hx], fun x hx => ?_⟩
  rw [hx]
  refine ⟨fun hne => if_pos hne, fun he => ?_⟩
  dsimp only
  rw [if_neg (not_not.2 he)]
  refine ⟨fun hr => by rw [hr], fun g hg => ?_⟩
  rw [hg]
  exact ⟨fun hl => if_pos hl, fun hl hs => by dsimp only; rw [if_neg (not_not.2 hl), if_pos hs]⟩

theorem State.matchAt_eq_matched {s : State} {t : Target} {r : EntryRef} {i : EntryIndex} {x : Exchange} {g : Routing} :
    s.matchAt t r = .matched i x g
      ↔ r.index = i ∧ (s.entry i).exchange = some x ∧ (s.entry i).inc = r.inc ∧ x.routing = some g ∧ g.link = t ∧ g.commandSent = true := by
  unfold State.matchAt
  constructor
  · intro h
    split at h
    · cases h
    · next y hy =>
      split at h
      · cases h
      · next hsame =>
        split at h
        · cases h
        · next k hk =>
          split at h
          · cases h
          · next hlink =>
            split at h
            · cases h
            · next hsent =>
              cases h
              exact ⟨rfl, hy, not_not.1 hsame, hk, not_not.1 hlink, Bool.eq_true_of_not_eq_false hsent⟩
  · rintro ⟨rfl, hx, hinc, hg, hl, hs⟩
    simp [hx, hinc, hg, hl, hs]

/-- Every tag up to FFh names an entry at an incarnation (R12). -/
theorem exists_ref_of_tag {n : Nat} (h : n ≤ 0xFF) : ∃ r : EntryRef, r.index.val = n % 64 ∧ r.inc.val = n / 64 :=
  ⟨⟨⟨n % 64, by omega⟩, ⟨n / 64, by omega⟩⟩, rfl, rfl⟩

theorem State.matchTarget_eq_matched {s : State} {t : Target} {f : List Byte} {i : EntryIndex} {x : Exchange} {g : Routing} :
    s.matchTarget t f = .matched i x g
      ↔ (frameTag f).toNat ≤ 0xFF ∧ frameInitiator f = 0 ∧ i.val = (frameTag f).toNat % 64 ∧ (s.entry i).exchange = some x
        ∧ (s.entry i).inc.val = (frameTag f).toNat / 64 ∧ x.routing = some g ∧ g.link = t ∧ g.commandSent = true := by
  constructor
  · intro h
    have htag : (frameTag f).toNat ≤ 0xFF := Nat.not_lt.1 fun hlt => by rw [State.matchTarget_of_tagRange hlt] at h; cases h
    have hn : frameInitiator f = 0 := by_contra fun hne => by rw [State.matchTarget_of_initiatorId htag hne] at h; cases h
    obtain ⟨r, hi, hinc⟩ := exists_ref_of_tag htag
    rw [State.matchTarget_eq_matchAt hn hi hinc] at h
    obtain ⟨rfl, hx, hsame, hrest⟩ := State.matchAt_eq_matched.1 h
    exact ⟨htag, hn, hi, hx, by rw [hsame, hinc], hrest⟩
  · rintro ⟨-, hn, hi, hx, hinc, hrest⟩
    rw [State.matchTarget_eq_matchAt (r := s.refOf i) hn hi hinc]
    exact State.matchAt_eq_matched.2 ⟨rfl, hx, rfl, hrest⟩

/-- Settles O25: the conditions are met in their order, and the entry named by a tag of at most FFh is the only one that it can match. -/
theorem targetMatchTakesSevenConditions : Obligations.TargetMatchTakesSevenConditions := by
  refine ⟨fun s t f i x g => State.matchTarget_eq_matched,
    fun s t f r hi => ⟨State.matchTarget_of_tagRange, State.matchTarget_of_initiatorId, fun hn hinc => ?_⟩⟩
  rw [State.matchTarget_eq_matchAt hn hi hinc]
  exact s.matchAt_cases t r

end Sys2Proof.Machine
end

section
/-! How an event changes the exchange table: an entry's exchange goes on, or it ends, or one FREE entry is allocated (R11, R12, R15, R19). The
invariants of the table (O57, O58, O59) follow from this one account of all events. -/

namespace Sys2Proof.Machine

/-! ## When a frame of the data phase passes its checks (R62 to R65, R137) -/

theorem proceedViolation_eq_none {x : Exchange} {f : List Byte} :
    proceedViolation x f = none
      ↔ proceedFormOk f = true ∧ x.direction = .dirOut ∧ x.proceeded.getD 0 + proceedWindow f ≤ x.length := by
  unfold proceedViolation
  split
  · simp_all
  · split
    · simp_all
    · split <;> simp_all

theorem targetDataViolation_eq_none {x : Exchange} {f : List Byte} :
    targetDataViolation x f = none
      ↔ dataFormOk f = true ∧ x.direction = .dirIn ∧ dataOffset f = x.moved ∧ x.moved + dataLength f ≤ x.length := by
  unfold targetDataViolation
  split
  · simp_all
  · split
    · simp_all
    · split
      · simp_all
      · split <;> simp_all

theorem windowViolation_eq_none {x : Exchange} {f : List Byte} :
    windowViolation x f = none ↔ dataOffset f = x.moved ∧ x.moved + dataLength f ≤ x.proceeded.getD 0 := by
  unfold windowViolation
  split
  · simp_all
  · split <;> simp_all

theorem bodyViolation_eq_none {x : Exchange} {f : List Byte} :
    bodyViolation x f = none ↔ dataFormOk f = true ∧ windowViolation x f = none := by
  unfold bodyViolation
  split <;> simp_all

theorem initiatorDataViolation_eq_none {x : Exchange} {f : List Byte} :
    initiatorDataViolation x f = none ↔ dataFormOk f = true ∧ x.direction = .dirOut ∧ windowViolation x f = none := by
  unfold initiatorDataViolation
  split
  · simp_all
  · split <;> simp_all

/-! ## What an exchange may become -/

/-- The books, the routing and the abort fields of one exchange (R9, R10, R17, R61, R69, R80). -/
def Exchange.Legal (x : Exchange) : Prop := x.booksOk ∧ x.routingOk ∧ x.abortingOk

/-- What an event may make of an exchange that stays in its entry: the pair of R15 stands, a closed exchange stays closed, a legal one legal. -/
structure Exchange.Becomes (x y : Exchange) : Prop where
  initiator : y.initiator = x.initiator
  tag : y.tag = x.tag
  closed : y.closed = false → x.closed = false
  legal : x.Legal → y.Legal

theorem Exchange.Becomes.refl (x : Exchange) : x.Becomes x := ⟨rfl, rfl, id, id⟩

theorem Exchange.Becomes.trans {x y z : Exchange} (h : x.Becomes y) (k : y.Becomes z) : x.Becomes z :=
  ⟨k.initiator.trans h.initiator, k.tag.trans h.tag, h.closed ∘ k.closed, k.legal ∘ h.legal⟩

/-- A target that may still act gives ABORTING all it asks for (R10, R80). -/
theorem Exchange.becomes_aborting {x : Exchange} {g : Routing} (hg : x.targetActive = some g) (o : AbortOrigin) (due : Clock) {closed : Bool}
    (hc : closed = false → x.closed = false) :
    x.Becomes { x with state := .aborting, origin := some o, closed := closed, deadline := some { kind := .grace, due := due } } := by
  refine ⟨rfl, rfl, hc, fun ⟨hbooks, hrouting, _⟩ => ⟨hbooks, hrouting, fun _ => rfl, fun _ => ?_⟩⟩
  obtain ⟨hr, hsent, hparked⟩ := (x.targetActive_eq g).1 hg
  exact ⟨hrouting.1 (by rw [hr]; rfl), hsent, rfl, rfl, hparked⟩

/-- A new open state other than ABORTING, with any timer: nothing else that is judged changes. -/
theorem Exchange.Legal.withState {x : Exchange} (h : x.Legal) (hx : x.state ≠ .aborting) {st : EntryState} (hst : st ≠ .aborting)
    (d : Option Deadline) : Exchange.Legal { x with state := st, deadline := d } :=
  ⟨h.1, h.2.1, fun hc => absurd (h.2.2.1 hc) hx, fun ha => absurd ha hst⟩

/-- New books that are legal leave a legal exchange legal (R61). -/
theorem Exchange.Legal.withBooks {x : Exchange} (h : x.Legal) {moved : Nat} {proceeded : Option Nat}
    (hb : Exchange.booksOk { x with moved := moved, proceeded := proceeded }) : Exchange.Legal { x with moved := moved, proceeded := proceeded } :=
  ⟨hb, h.2.1, h.2.2⟩

theorem Exchange.becomes_issued {x : Exchange} (hx : x.state = .held) (q : Option StoredRequest) (d : Option Deadline) :
    x.Becomes { x with state := .issued, storedRequest := q, deadline := d } :=
  ⟨rfl, rfl, id, fun h => h.withState (by rw [hx]; decide) (by decide) d⟩

/-- Parking a STATUS takes the timer away, outside ABORTING (R69). -/
theorem Exchange.becomes_parked {x : Exchange} (hx : x.state ≠ .aborting) (k : ParkedStatus) :
    x.Becomes { x with deadline := none, parked := some k } :=
  ⟨rfl, rfl, id, fun h => ⟨h.1, h.2.1, h.2.2.1, fun ha => absurd ha hx⟩⟩

/-- An exchange in ABORTING closes (R90, R133). -/
theorem Exchange.becomes_closed {x : Exchange} (hx : x.state = .aborting) : x.Becomes { x with closed := true, dataWaiting := 0 } :=
  ⟨rfl, rfl, nofun, fun h => ⟨h.1, h.2.1, fun _ => hx, h.2.2.2⟩⟩

theorem Exchange.becomes_endedByManagement {x : Exchange} (hx : x.state = .aborting) :
    x.Becomes { x with origin := some .management, closed := true } := by
  refine ⟨rfl, rfl, nofun, fun h => ⟨h.1, h.2.1, fun _ => hx, fun ha => ?_⟩⟩
  obtain ⟨hkind, hsent, -, hgrace, hparked⟩ := h.2.2.2 ha
  exact ⟨hkind, hsent, rfl, hgrace, hparked⟩

/-- An accepted PROCEED raises bytes proceeded within the transfer length (R63). -/
theorem Exchange.becomes_proceeded {x : Exchange} {f : List Byte} (hx : x.state ≠ .aborting) (hv : proceedViolation x f = none) :
    x.Becomes { x with state := .moving, proceeded := some (x.proceeded.getD 0 + proceedWindow f) } := by
  refine ⟨rfl, rfl, id, fun h => Exchange.Legal.withBooks (x := { x with state := .moving }) (h.withState hx (by decide) x.deadline) ?_⟩
  obtain ⟨-, hdir, hlen⟩ := proceedViolation_eq_none.1 hv
  obtain ⟨hmoved, hout, -⟩ := h.1
  obtain ⟨n, hn⟩ := Option.isSome_iff_exists.1 (hout.2 hdir)
  simp only [Exchange.booksOk, Exchange.moveBound, hn, Option.getD_some, Option.isSome_some, hdir] at hmoved hlen ⊢
  exact ⟨by omega, by simp, hlen⟩

/-- A target's accepted DATA raises bytes moved within the transfer length (R65). -/
theorem Exchange.becomes_targetData {x : Exchange} {f : List Byte} (hx : x.state ≠ .aborting) (hv : targetDataViolation x f = none) :
    x.Becomes { x with state := .moving, moved := x.moved + dataLength f, dataWaiting := x.dataWaiting + 1 } := by
  refine ⟨rfl, rfl, id, fun h => Exchange.Legal.withBooks (x := { x with state := .moving, dataWaiting := x.dataWaiting + 1 })
    (h.withState hx (by decide) x.deadline) ?_⟩
  obtain ⟨-, hdir, -, hlen⟩ := targetDataViolation_eq_none.1 hv
  obtain ⟨-, hout, -⟩ := h.1
  have hn : x.proceeded = none := Option.not_isSome_iff_eq_none.1 fun hs => by rw [hout.1 hs] at hdir; cases hdir
  simp only [Exchange.booksOk, Exchange.moveBound, hn, hdir]
  exact ⟨hlen, by simp, by simp⟩

/-- DATA of an initiator that passes the window's tests raises bytes moved within bytes proceeded (R64, R137). -/
theorem Exchange.becomes_moved {x : Exchange} {f : List Byte} (hv : windowViolation x f = none) :
    x.Becomes { x with moved := x.moved + dataLength f } := by
  refine ⟨rfl, rfl, id, fun h => Exchange.Legal.withBooks (x := x) h ?_⟩
  obtain ⟨-, hlen⟩ := windowViolation_eq_none.1 hv
  obtain ⟨-, hout, hproc⟩ := h.1
  refine ⟨?_, hout, hproc⟩
  simp only [Exchange.moveBound]
  cases hn : x.proceeded <;> simp [hn] at hlen ⊢ <;> omega

theorem Exchange.becomes_withBodyFrame {x : Exchange} {f : List Byte} (hx : x.state = .mgmtBody) (hv : windowViolation x f = none) :
    x.Becomes (x.withBodyFrame f) := by
  refine (Exchange.becomes_moved hv).trans ?_
  simp only [Exchange.withBodyFrame]
  split
  · exact ⟨rfl, rfl, id, fun h => h.withState (by simp [hx]) (by decide) none⟩
  · exact ⟨rfl, rfl, id, id⟩

/-- A transmitted run raises bytes moved, and never past its bound (R61, R106). -/
theorem Exchange.becomes_withRun (x : Exchange) (payload : List Byte) : x.Becomes (x.withRun payload) := by
  unfold Exchange.withRun
  split
  · refine ⟨rfl, rfl, id, fun h => Exchange.Legal.withBooks (x := x) h ⟨?_, h.1.2⟩⟩
    exact max_le h.1.1 (min_le_right ..)
  · exact .refl x

/-! ## What an entry may become without an allocation -/

/-- The incarnation stands, and an exchange found afterwards has come of the one that was there. -/
def Entry.Follows (e e' : Entry) : Prop := e'.inc = e.inc ∧ ∀ y, e'.exchange = some y → ∃ x, e.exchange = some x ∧ x.Becomes y

theorem Entry.Follows.refl (e : Entry) : e.Follows e := ⟨rfl, fun y h => ⟨y, h, .refl y⟩⟩

theorem Entry.Follows.trans {a b c : Entry} (h : a.Follows b) (k : b.Follows c) : a.Follows c := by
  refine ⟨k.1.trans h.1, fun z hz => ?_⟩
  obtain ⟨y, hy, hyz⟩ := k.2 z hz
  obtain ⟨x, hx, hxy⟩ := h.2 y hy
  exact ⟨x, hx, hxy.trans hyz⟩

theorem Entry.follows_free {e e' : Entry} (hinc : e'.inc = e.inc) (h : e'.exchange = none) : e.Follows e' :=
  ⟨hinc, fun y hy => by rw [h] at hy; cases hy⟩

theorem Entry.Follows.holdsPair {e e' : Entry} (h : e.Follows e') {n : InitiatorId} {t : Tag} (hp : e'.holdsPair n t) : e.holdsPair n t := by
  unfold Entry.holdsPair at hp ⊢
  obtain ⟨y, hy, hyp⟩ := (Option.any_eq_true _ _).1 hp
  obtain ⟨x, hx, hxy⟩ := h.2 y hy
  simp only [Bool.and_eq_true, Bool.not_eq_true', beq_iff_eq] at hyp
  simp [hx, hxy.closed hyp.1.1, ← hxy.initiator, ← hxy.tag, hyp]

/-- Every entry follows: what an event does to the table without an allocation. -/
structure State.EntriesFollow (s t : State) : Prop where
  entry : ∀ i, (s.entry i).Follows (t.entry i)

theorem State.EntriesFollow.refl (s : State) : s.EntriesFollow s := ⟨fun _ => .refl _⟩

theorem State.EntriesFollow.trans {s t u : State} (h : s.EntriesFollow t) (k : t.EntriesFollow u) : s.EntriesFollow u :=
  ⟨fun i => (h.entry i).trans (k.entry i)⟩

theorem State.entry_congr {s t : State} (h : t.entries = s.entries) (i : EntryIndex) : t.entry i = s.entry i := by
  simp [State.entry, h]

theorem State.entriesFollow_of_eq {s t : State} (h : t.entries = s.entries) : s.EntriesFollow t :=
  ⟨fun i => by rw [State.entry_congr h]; exact .refl _⟩

/-- What follows goes on to follow through a change that touches no entry. -/
theorem State.EntriesFollow.congr {s t u : State} (h : s.EntriesFollow t) (k : u.entries = t.entries) : s.EntriesFollow u :=
  h.trans (State.entriesFollow_of_eq k)

theorem State.setExchange_follows {s : State} {i : EntryIndex} {x y : Exchange} (h : (s.entry i).exchange = some x) (hb : x.Becomes y) :
    s.EntriesFollow (s.setExchange i y) := by
  refine ⟨fun j => ?_⟩
  rw [State.setExchange_entry]
  split
  · next hj => subst hj; exact ⟨rfl, fun z hz => ⟨x, h, Option.some.inj hz ▸ hb⟩⟩
  · exact .refl _

/-- Freeing an entry, whatever had been written to its exchange before. -/
theorem State.freeEntry_follows_of {s t : State} {i : EntryIndex} (h : ∀ j, j ≠ i → t.entry j = s.entry j)
    (hinc : (t.entry i).inc = (s.entry i).inc) : s.EntriesFollow (t.freeEntry i) := by
  refine ⟨fun j => ?_⟩
  rw [State.freeEntry_entry]
  split
  · next hj => subst hj; exact Entry.follows_free hinc rfl
  · next hj => rw [h j hj]; exact .refl _

theorem State.freeEntry_follows (s : State) (i : EntryIndex) : s.EntriesFollow (s.freeEntry i) :=
  State.freeEntry_follows_of (fun _ _ => rfl) rfl

/-- Entries taken one after the other. -/
theorem State.foldl_follows {f : State → EntryIndex → State} (hf : ∀ (s : State) i, s.EntriesFollow (f s i)) (l : List EntryIndex) (s : State) :
    s.EntriesFollow (l.foldl f s) := by
  induction l generalizing s with
  | nil => exact .refl s
  | cons i l ih => exact (hf s i).trans (ih _)

end Sys2Proof.Machine
end

section
/-! What each operation of the part does with the entries, in the order of the model's files. -/

namespace Sys2Proof.Machine

variable {s t : State} {i : EntryIndex} {x : Exchange}

/-! ## Shared operations -/

/-- An entry whose exchange takes a new record on the way, and is then freed. -/
theorem State.setExchange_freeEntry_follows (s : State) {t : State} {i : EntryIndex} {y : Exchange}
    (h : t.entries = (s.setExchange i y).entries) : s.EntriesFollow (t.freeEntry i) :=
  State.freeEntry_follows_of (fun j hj => (State.entry_congr h j).trans (State.setExchange_entry_ne _ _ hj))
    (by rw [State.entry_congr h, State.setExchange_entry_inc])

theorem State.closeAndFree_follows (s : State) (i : EntryIndex) (x : Exchange) (code : Byte) : s.EntriesFollow (s.closeAndFree i x code) :=
  (State.entriesFollow_of_eq (State.enqueue_entries ..)).trans (State.freeEntry_follows ..)

theorem State.closeManagement_follows (s : State) (i : EntryIndex) (x : Exchange) (code : Byte) (mark : Bool) :
    s.EntriesFollow (s.closeManagement i x code mark) :=
  (State.entriesFollow_of_eq (State.enqueue_entries ..)).trans (State.freeEntry_follows ..)

theorem State.withdrawUnseen_entries (s : State) (i : EntryIndex) (x : Exchange) : (s.withdrawUnseen i x).entries = s.entries := by
  unfold State.withdrawUnseen State.withdrawRequest
  split <;> simp

/-- The exchange `y` that enters ABORTING may have been changed already within the event. -/
theorem State.enterAborting_follows {y : Exchange} {g : Routing} (h : (s.entry i).exchange = some x) (hb : x.Becomes y)
    (hg : y.targetActive = some g) (o : AbortOrigin) {closed : Bool} (hc : closed = false → y.closed = false) :
    s.EntriesFollow (s.enterAborting i y g o closed) :=
  (State.setExchange_follows h (hb.trans (Exchange.becomes_aborting hg o _ hc))).congr (State.enqueue_entries ..)

theorem State.endWithStatus_follows (h : (s.entry i).exchange = some x) (code : Byte) (o : AbortOrigin) :
    s.EntriesFollow (s.endWithStatus i x code o) := by
  unfold State.endWithStatus
  split
  · next g hg => exact (State.enterAborting_follows h (.refl x) hg o (closed := true) nofun).congr (State.enqueue_entries ..)
  · exact (State.entriesFollow_of_eq (State.withdrawUnseen_entries ..)).trans (State.closeAndFree_follows ..)

theorem State.phaseViolation_follows (h : (s.entry i).exchange = some x) (d : ViolationDetail) :
    s.EntriesFollow (s.phaseViolation i x d) :=
  (State.endWithStatus_follows h _ _).congr (State.post_entries ..)

@[simp] theorem State.endLease_entries (s : State) (why : LeaseEnd) : (s.endLease why).entries = s.entries := by
  unfold State.endLease
  split <;> simp

@[simp] theorem State.enqueueAll_entries (s : State) (p : Port) (ds : List Descriptor) : (s.enqueueAll p ds).entries = s.entries := by
  induction ds generalizing s with
  | nil => rfl
  | cons d ds ih => exact (ih _).trans (State.enqueue_entries ..)

theorem State.takeNext_entries {c : Consumer} {p : Port} {f : List Byte} (h : s.takeNext c p = some (f, t)) : t.entries = s.entries := by
  obtain ⟨rest, -, rfl⟩ := State.takeNext_some h
  simp

theorem State.takeKind_entries {p : Port} {k : Byte} {f : List Byte} (h : s.takeKind p k = some (f, t)) : t.entries = s.entries :=
  State.takeNext_entries (State.takeKind_some h).2

/-- A performance that concludes on an exchange its entry still holds. -/
theorem State.conclude_follows {r : OpResult} (h : (r.state.entry i).exchange = some x) :
    r.state.EntriesFollow (State.conclude i x r) := by
  simp only [State.conclude]
  split
  · have hclose : ∀ (u : State) (mark : Bool), u.entries = r.state.entries →
        r.state.EntriesFollow ((u.setExchange i { x with storedRequest := none, bodyFrames := [] }).closeManagement i
          { x with storedRequest := none, bodyFrames := [] } r.code mark) := by
      intro u mark hu
      refine State.setExchange_freeEntry_follows r.state ((State.enqueue_entries ..).trans ?_)
        (y := { x with storedRequest := none, bodyFrames := [] })
      simp only [State.setExchange, State.setEntry, State.entry, hu]
    split
    · exact hclose _ _ (by simp)
    · exact (hclose _ _ (by simp)).congr rfl
    · exact (hclose _ _ (by simp)).congr (State.endLease_entries ..)
  · refine ((State.entriesFollow_of_eq (by simp)).trans (State.setExchange_follows (x := x) ?_ ?_)).congr (State.enqueueAll_entries ..)
    · simpa using h
    · exact ⟨rfl, rfl, id, id⟩

/-! ## Operations that reach another entry -/

/-- Every entry follows, and entry i, whose own operation is performed, stands. -/
def State.FollowsBeside (i : EntryIndex) (s t : State) : Prop := s.EntriesFollow t ∧ t.entry i = s.entry i

theorem State.FollowsBeside.of_eq (h : t.entries = s.entries) : s.FollowsBeside i t :=
  ⟨State.entriesFollow_of_eq h, State.entry_congr h i⟩

theorem State.FollowsBeside.trans {u : State} (h : s.FollowsBeside i t) (k : t.FollowsBeside i u) : s.FollowsBeside i u :=
  ⟨h.1.trans k.1, k.2.trans h.2⟩

/-- Freeing another entry. -/
theorem State.closeAndFree_beside {j : EntryIndex} (hj : i ≠ j) (y : Exchange) (code : Byte) :
    s.FollowsBeside i (s.closeAndFree j y code) :=
  ⟨State.closeAndFree_follows .., by
    unfold State.closeAndFree State.queueStatus; rw [State.freeEntry_entry_ne _ hj, State.enqueue_entry]⟩

theorem State.endWithStatus_entry_ne {j : EntryIndex} (hj : i ≠ j) (y : Exchange) (code : Byte) (o : AbortOrigin) :
    (s.endWithStatus j y code o).entry i = s.entry i := by
  unfold State.endWithStatus
  split
  · unfold State.queueStatus State.enterAborting
    rw [State.enqueue_entry, State.enqueue_entry, State.setExchange_entry_ne _ _ hj]
  · rw [(State.closeAndFree_beside hj ..).2, State.withdrawUnseen_entry]

theorem State.endByManagement_beside {j : EntryIndex} {y : Exchange} (hj : i ≠ j) (h : (s.entry j).exchange = some y) :
    s.FollowsBeside i (s.endByManagement j y) := by
  unfold State.endByManagement
  split
  · next ha =>
    refine ⟨(State.setExchange_follows h (Exchange.becomes_endedByManagement ha)).congr (State.enqueue_entries ..), ?_⟩
    unfold State.queueStatus
    rw [State.enqueue_entry, State.setExchange_entry_ne _ _ hj]
  · exact ⟨State.endWithStatus_follows h _ _, State.endWithStatus_entry_ne hj ..⟩

theorem opEndExchange_beside (s : State) (i : EntryIndex) (params : List Byte) : s.FollowsBeside i (opEndExchange s i params).state := by
  simp only [opEndExchange]
  split
  · next hn =>
    split
    · exact .of_eq rfl
    · split
      · exact .of_eq rfl
      · next hown =>
        split
        · exact .of_eq rfl
        · next y hy =>
          split
          · exact .of_eq rfl
          · exact State.endByManagement_beside (fun e => hown (congrArg Fin.val e).symm) hy
  · exact .of_eq rfl

theorem State.releaseHeld_beside {j : EntryIndex} {y : Exchange} (hj : i ≠ j) (h : (s.entry j).exchange = some y) (hy : y.state = .held)
    (g : Routing) (f : List Byte) : s.FollowsBeside i (s.releaseHeld j y g f) := by
  refine ⟨(State.setExchange_follows h (Exchange.becomes_issued hy _ _)).congr (State.enqueue_entries ..), ?_⟩
  exact (State.enqueue_entry ..).trans (State.setExchange_entry_ne _ _ hj)

theorem decideHeld_beside {j : EntryIndex} {y : Exchange} (hj : i ≠ j) (h : (s.entry j).exchange = some y) (hy : y.state = .held)
    (decision : Byte) : s.FollowsBeside i (decideHeld s j y decision).state := by
  simp only [decideHeld]
  split
  · exact State.closeAndFree_beside hj ..
  · split
    · split
      · exact State.releaseHeld_beside hj h hy ..
      · exact State.closeAndFree_beside hj ..
    · exact .of_eq rfl

/-- HOLD_DECIDE reaches a held entry, and the one that asks is not held. -/
theorem opHoldDecide_beside (h : (s.entry i).exchange = some x) (hx : x.state ≠ .held) (params : List Byte) :
    s.FollowsBeside i (opHoldDecide s params).state := by
  simp only [opHoldDecide]
  split
  · split
    · exact .of_eq rfl
    · split
      · exact .of_eq rfl
      · next y hy =>
        split
        · exact .of_eq rfl
        · next hheld =>
          simp only [not_or, Decidable.not_not] at hheld
          refine decideHeld_beside (fun e => hx ?_) hy hheld.1 _
          rw [← e, h, Option.some.injEq] at hy
          rw [hy, hheld.1]
  · exact .of_eq rfl

theorem State.expireHold_beside {j : EntryIndex} (hj : i ≠ j) (y : Exchange) : s.FollowsBeside i (s.expireHold j y) :=
  (State.closeAndFree_beside hj ..).trans (.of_eq (State.post_entries ..))

/-- HOLD_LIST's expiries reach entries under a hold deadline, and the one that asks has no deadline. -/
theorem State.expireHolds_beside (hs : List HoldPlace) (h : (s.entry i).exchange = some x) (hx : x.deadline = none) :
    s.FollowsBeside i (s.expireHolds hs) := by
  induction hs generalizing s with
  | nil => exact .of_eq rfl
  | cons k hs ih =>
    unfold State.expireHolds
    split
    · next y hy =>
      have hk : i ≠ k.entry.index := by
        rintro rfl
        obtain ⟨he, d, hd, -⟩ := State.expired_eq_some_iff.1 hy
        rw [h, Option.some.injEq] at he
        rw [← he, hx] at hd
        cases hd
      have hstep := State.expireHold_beside (s := s) hk y
      exact hstep.trans (ih (by rw [hstep.2]; exact h))
    · exact ih h

@[simp] theorem opReadEntry_state (s : State) (params : List Byte) : (opReadEntry s params).state = s := by
  simp only [opReadEntry]
  split
  · rfl
  · split
    · rfl
    · split
      · split <;> rfl
      · rfl

@[simp] theorem opReadExchange_state (s : State) (params : List Byte) : (opReadExchange s params).state = s := by
  simp only [opReadExchange]
  split <;> rfl

theorem opClaim_entries (s : State) (caller : InitiatorId) : (opClaim s caller).state.entries = s.entries := by
  unfold opClaim
  split
  · split <;> rfl
  · rfl

theorem opWriteEntry_entries (s : State) (params body : List Byte) : (opWriteEntry s params body).state.entries = s.entries := by
  simp only [opWriteEntry]
  split
  · rfl
  · split
    · rfl
    · split
      · rfl
      · split
        · rfl
        · exact State.setStaging_entries ..

theorem opClearStaging_entries (s : State) : (opClearStaging s).state.entries = s.entries := by
  unfold opClearStaging
  split
  · rfl
  · exact State.setStaging_entries ..

theorem opCommit_entries (s : State) : (opCommit s).state.entries = s.entries := by
  simp only [opCommit]
  split
  · rfl
  · split
    · rfl
    · split <;> rfl

theorem opAlertAck_entries (s : State) (params : List Byte) : (opAlertAck s params).state.entries = s.entries := by
  unfold opAlertAck
  split
  · rfl
  · split
    · exact State.withdraw_entries ..
    · rfl

/-- An operation reaches no other entry but those END_EXCHANGE, HOLD_DECIDE and HOLD_LIST name, and never the one it is performed for. -/
theorem carryOut_beside (h : (s.entry i).exchange = some x) (hx : x.state = .mgmtAnswer) (hd : x.deadline = none) (params : List Byte)
    (op : MgmtOp) : s.FollowsBeside i (carryOut s i x params op).state := by
  cases op with
  | holdList => exact State.expireHolds_beside _ h hd
  | holdDecide => exact opHoldDecide_beside h (by rw [hx]; decide) params
  | endExchange => exact opEndExchange_beside ..
  | claim => exact .of_eq (opClaim_entries ..)
  | releaseLease => exact .of_eq (State.endLease_entries ..)
  | readEntry => exact .of_eq (by simp [carryOut])
  | readExchange => exact .of_eq (by simp [carryOut])
  | writeEntry => exact .of_eq (opWriteEntry_entries ..)
  | clearStaging => exact .of_eq (opClearStaging_entries ..)
  | commit => exact .of_eq (opCommit_entries ..)
  | alertAck => exact .of_eq (opAlertAck_entries ..)
  | identify | renew | linkState | warmReset => exact .of_eq rfl

theorem operationResult_beside (h : (s.entry i).exchange = some x) (hx : x.state = .mgmtAnswer) (hd : x.deadline = none) :
    s.FollowsBeside i (operationResult s i x).state := by
  unfold operationResult
  split
  · exact .of_eq rfl
  · split
    · exact .of_eq rfl
    · split
      · exact .of_eq rfl
      · exact carryOut_beside h hx hd ..

theorem State.performOperation_follows (h : (s.entry i).exchange = some x) (hx : x.state = .mgmtAnswer) (hd : x.deadline = none) :
    s.EntriesFollow (s.performOperation i x) := by
  obtain ⟨hfollows, hown⟩ := operationResult_beside h hx hd
  exact hfollows.trans (State.conclude_follows (by rw [hown]; exact h))

/-! ## Frames of the data phase -/

theorem State.discard_follows (s : State) (f : List Byte) : s.EntriesFollow (s.discard f) := State.entriesFollow_of_eq (State.discard_entries ..)

theorem State.discard_phaseViolation_follows (h : (s.entry i).exchange = some x) (f : List Byte) (d : ViolationDetail) :
    s.EntriesFollow ((s.discard f).phaseViolation i x d) :=
  (State.discard_follows ..).trans (State.phaseViolation_follows ((congrArg _ (State.discard_entry ..)).trans h) d)

/-- Taking a target's frame follows when the rule of its kind does on the entry it matches. -/
theorem State.takeTargetFrame_follows {rule : EntryIndex → Exchange → Routing → State} (k : Target) (f : List Byte)
    (hrule : ∀ i x g, (s.entry i).exchange = some x → s.EntriesFollow (rule i x g)) : s.EntriesFollow (s.takeTargetFrame k f rule) := by
  unfold State.takeTargetFrame
  split
  · exact (State.discard_follows ..).congr (State.post_entries ..)
  · split
    · split
      · exact State.discard_follows ..
      · exact (State.discard_follows ..).congr (State.post_entries ..)
    · next i x g hm =>
      obtain ⟨-, -, -, hx, -⟩ := State.matchTarget_eq_matched.1 hm
      exact hrule i x g hx

theorem State.afterStatus_follows (s : State) (k : Target) (i : EntryIndex) (f : List Byte) : s.EntriesFollow (s.afterStatus k i f) :=
  (State.discard_follows ..).congr (State.post_entries ..)

theorem State.proceedRule_follows (k : Target) (f : List Byte) (g : Routing) (h : (s.entry i).exchange = some x) :
    s.EntriesFollow (s.proceedRule k f i x g) := by
  unfold State.proceedRule
  split
  · exact State.afterStatus_follows ..
  · split
    · exact State.discard_follows ..
    · next ha =>
      split
      · exact State.discard_phaseViolation_follows h ..
      · next hv => exact (State.setExchange_follows h (Exchange.becomes_proceeded ha hv)).congr (State.enqueue_entries ..)

theorem State.targetDataRule_follows (k : Target) (f : List Byte) (g : Routing) (h : (s.entry i).exchange = some x) :
    s.EntriesFollow (s.targetDataRule k f i x g) := by
  unfold State.targetDataRule
  split
  · exact State.afterStatus_follows ..
  · split
    · exact State.discard_follows ..
    · next ha =>
      split
      · exact State.discard_phaseViolation_follows h ..
      · next hv => exact (State.setExchange_follows h (Exchange.becomes_targetData ha hv)).congr (State.enqueue_entries ..)

theorem State.deliverStatus_follows (s : State) (i : EntryIndex) (x : Exchange) (k : ParkedStatus) :
    s.EntriesFollow (s.deliverStatus i x k) :=
  State.setExchange_freeEntry_follows s (State.enqueue_entries ..)

theorem State.acceptStatus_follows (h : (s.entry i).exchange = some x) (ha : x.state ≠ .aborting) (k : ParkedStatus) :
    s.EntriesFollow (s.acceptStatus i x k) := by
  unfold State.acceptStatus
  split
  · exact State.deliverStatus_follows ..
  · exact State.setExchange_follows h (Exchange.becomes_parked ha k)

theorem State.discard_freeEntry_follows (s : State) (f : List Byte) (i : EntryIndex) : s.EntriesFollow ((s.discard f).freeEntry i) :=
  (State.discard_follows ..).trans (State.freeEntry_follows ..)

theorem State.statusRule_follows (k : Target) (f : List Byte) (g : Routing) (h : (s.entry i).exchange = some x) :
    s.EntriesFollow (s.statusRule k f i x g) := by
  unfold State.statusRule
  split
  · exact State.afterStatus_follows ..
  · split
    · split
      · unfold State.endAbortByStatus
        split
        · exact State.discard_freeEntry_follows ..
        · exact State.deliverStatus_follows ..
      · exact State.discard_follows ..
    · next ha =>
      split
      · exact State.acceptStatus_follows h ha _
      · exact State.discard_phaseViolation_follows h ..

theorem State.abortDoneRule_follows (s : State) (k : Target) (f : List Byte) (i : EntryIndex) (x : Exchange) (g : Routing) :
    s.EntriesFollow (s.abortDoneRule k f i x g) := by
  unfold State.abortDoneRule
  split
  · exact State.discard_follows ..
  · split
    · split
      · unfold State.endAbortByDone
        split
        · exact State.discard_freeEntry_follows ..
        · exact (State.entriesFollow_of_eq (State.enqueue_entries ..)).trans (State.freeEntry_follows ..)
      · exact State.discard_follows ..
    · exact (State.discard_follows ..).congr (State.post_entries ..)

theorem State.bodyRule_follows (h : (s.entry i).exchange = some x) (hx : x.state = .mgmtBody) (f : List Byte) :
    s.EntriesFollow (s.bodyRule i x f) := by
  unfold State.bodyRule
  split
  · exact State.discard_phaseViolation_follows h ..
  · next hv =>
    have htaken := State.setExchange_follows h (Exchange.becomes_withBodyFrame hx (bodyViolation_eq_none.1 hv).2)
    simp only [State.acceptBody]
    split
    · next hlast =>
      have hw : (x.withBodyFrame f).state = .mgmtAnswer ∧ (x.withBodyFrame f).deadline = none := by simp [Exchange.withBodyFrame, hlast]
      exact htaken.trans (State.performOperation_follows (by rw [State.setExchange_entry_self]) hw.1 hw.2)
    · exact htaken

theorem State.movingRule_follows (h : (s.entry i).exchange = some x) (g : Routing) (f : List Byte) : s.EntriesFollow (s.movingRule i x g f) := by
  unfold State.movingRule
  split
  · exact State.discard_phaseViolation_follows h ..
  · next hv =>
    exact (State.setExchange_follows h (Exchange.becomes_moved (initiatorDataViolation_eq_none.1 hv).2.2)).congr (State.enqueue_entries ..)

theorem State.initiatorDataRule_follows (h : (s.entry i).exchange = some x) (f : List Byte) : s.EntriesFollow (s.initiatorDataRule i x f) := by
  have hmoving : s.EntriesFollow (match x.routing with
      | some g => s.movingRule i x g f
      | none => (s.discard f).phaseViolation i x (unwantedViolation f)) := by
    split
    · exact State.movingRule_follows h ..
    · exact State.discard_phaseViolation_follows h ..
  unfold State.initiatorDataRule
  split
  · exact State.discard_phaseViolation_follows h ..
  · split
    · exact (State.discard_follows ..).congr (State.post_entries ..)
    · next hx => exact State.bodyRule_follows h hx f
    · exact State.discard_follows ..
    · exact State.discard_phaseViolation_follows h ..
    · exact State.discard_phaseViolation_follows h ..
    · exact hmoving
    · exact hmoving

theorem State.matchInitiator_exchange {f : List Byte} (h : s.matchInitiator f = some (i, x)) : (s.entry i).exchange = some x := by
  unfold State.matchInitiator at h
  split at h
  · cases h
  · obtain ⟨y, hy, he⟩ := Option.map_eq_some_iff.1 h
    cases he
    exact hy

theorem State.takeInitiatorData_follows (s : State) (f : List Byte) : s.EntriesFollow (s.takeInitiatorData f) := by
  unfold State.takeInitiatorData
  split
  · exact (State.discard_follows ..).congr (State.post_entries ..)
  · split
    · exact (State.discard_follows ..).congr (State.post_entries ..)
    · next i x hm => exact State.initiatorDataRule_follows (State.matchInitiator_exchange hm) f

/-! ## Aborts and expiries -/

/-- The entry of a pair is open (R15). -/
theorem State.openEntry_some {n : InitiatorId} {k : Tag} (h : s.openEntry n k = some i) : (s.entry i).holdsPair n k := by
  unfold State.openEntry at h
  have hp := List.find?_some h
  exact hp

theorem State.openEntry_none {n : InitiatorId} {k : Tag} (h : s.openEntry n k = none) (j : EntryIndex) : ¬(s.entry j).holdsPair n k :=
  fun hj => List.find?_eq_none.1 h j (List.mem_finRange j) hj

theorem State.abortMatched_follows (h : (s.entry i).exchange = some x) (hopen : x.closed = false) (f : List Byte) :
    s.EntriesFollow (s.abortMatched i x f) := by
  unfold State.abortMatched
  split
  · exact State.entriesFollow_of_eq (State.enqueue_entries ..)
  · split
    · next g hg =>
      refine (State.discard_follows s f).trans (State.enterAborting_follows (x := x) ?_ (.refl x) hg _ fun _ => hopen)
      rw [State.discard_entry, h]
    · exact State.freeEntry_follows_of (fun j _ => (State.enqueue_entry ..).trans (State.withdrawUnseen_entry ..))
        (congrArg _ ((State.enqueue_entry ..).trans (State.withdrawUnseen_entry ..)))

theorem State.takeAbort_follows (s : State) (f : List Byte) : s.EntriesFollow (s.takeAbort f) := by
  have hnotFound : s.EntriesFollow (s.answerNotFound f) := State.entriesFollow_of_eq (State.enqueue_entries ..)
  unfold State.takeAbort
  split
  · exact (State.discard_follows ..).congr (State.post_entries ..)
  · split
    · exact (State.discard_follows ..).congr (State.post_entries ..)
    · split
      · exact hnotFound
      · next i hi =>
        split
        · exact hnotFound
        · next x hx =>
          have hp := State.openEntry_some hi
          simp only [Entry.holdsPair, hx, Option.any_some, Bool.and_eq_true, Bool.not_eq_true'] at hp
          exact State.abortMatched_follows hx hp.1.1 f

theorem State.expired_exchange {k : DeadlineKind} (h : s.expired i k = some x) : (s.entry i).exchange = some x :=
  (State.expired_eq_some_iff.1 h).1

/-! ## Egress -/

theorem State.exchangeAt_exchange {r : EntryRef} (h : s.exchangeAt r = some x) : (s.entry r.index).exchange = some x := by
  unfold State.exchangeAt at h
  split at h
  · exact h
  · cases h

theorem State.markSent_follows (s : State) (r : EntryRef) : s.EntriesFollow (s.markSent r) := by
  unfold State.markSent
  split
  · exact .refl s
  · next x hx =>
    split
    · exact .refl s
    · next g hg =>
      split
      · refine State.setExchange_follows (State.exchangeAt_exchange hx) ⟨rfl, rfl, id, fun h => ⟨h.1, ?_, h.2.2.1, fun ha => ?_⟩⟩
        · simpa [Exchange.routingOk, hg] using h.2.1
        · obtain ⟨hkind, -, hrest⟩ := h.2.2.2 ha
          exact ⟨hkind, rfl, hrest⟩
      · exact .refl s

theorem State.dataLeft_follows (s : State) (i : EntryIndex) (x : Exchange) : s.EntriesFollow (s.dataLeft i x) := by
  unfold State.dataLeft
  split
  · exact State.deliverStatus_follows ..
  · exact State.closeAndFree_follows ..
  · exact State.closeManagement_follows ..
  · exact .refl s

theorem State.dataGone_follows {y : Exchange} (h : (s.entry i).exchange = some x) (hb : x.Becomes y) : s.EntriesFollow (s.dataGone i y) := by
  have hfewer : s.EntriesFollow (s.setExchange i { y with dataWaiting := y.dataWaiting - 1 }) :=
    State.setExchange_follows h (hb.trans ⟨rfl, rfl, id, id⟩)
  simp only [State.dataGone]
  split
  · exact hfewer.trans (State.dataLeft_follows ..)
  · exact hfewer

theorem State.dataSent_follows (s : State) (d : Descriptor) : s.EntriesFollow (s.dataSent d) := by
  unfold State.dataSent
  split
  · exact .refl s
  · split
    · exact .refl s
    · next x hx =>
      split
      · exact State.dataGone_follows (State.exchangeAt_exchange hx) (Exchange.becomes_withRun ..)
      · exact State.dataGone_follows (State.exchangeAt_exchange hx) (.refl x)

theorem State.resetEntry_follows (s : State) (i : EntryIndex) : s.EntriesFollow (s.resetEntry i) := by
  unfold State.resetEntry
  split
  · exact .refl s
  · split
    · split
      · exact State.freeEntry_follows ..
      · exact State.closeAndFree_follows ..
    · split
      · refine (State.entriesFollow_of_eq ?_).trans (State.freeEntry_follows ..)
        exact (State.enqueue_entries ..).trans (State.enqueue_entries ..)
      · exact State.closeAndFree_follows ..

theorem State.resetBlocks_entries (s : State) : s.resetBlocks.entries = s.entries := rfl

theorem State.takeWarmReset_follows (s : State) : s.EntriesFollow s.takeWarmReset := by
  refine State.EntriesFollow.congr ?_ (State.resetBlocks_entries _)
  refine (State.entriesFollow_of_eq ?_).trans (State.foldl_follows State.resetEntry_follows ..)
  simp [State.purgeForReset]

theorem State.completed_follows (s : State) (p : Port) (d : Descriptor) : s.EntriesFollow (s.completed p d) := by
  have hdata : s.EntriesFollow (if p = .i ∧ d.isData = true then s.dataSent d else s) := by
    split
    · exact State.dataSent_follows ..
    · exact .refl s
  have hsent : ∀ u, s.EntriesFollow u → s.EntriesFollow (match d.entry with
      | some r => if d.isRequest then u.markSent r else u
      | none => u) := by
    intro u hu
    split
    · split
      · exact hu.trans (State.markSent_follows ..)
      · exact hu
    · exact hu
  have halerted : ∀ u : State, s.EntriesFollow u → s.EntriesFollow (if d.isAlert then u.alertSent else u) := by
    intro u hu
    split
    · exact hu.congr rfl
    · exact hu
  simp only [State.completed]
  split
  · exact (halerted _ (hsent _ hdata)).trans (State.takeWarmReset_follows _)
  · exact halerted _ (hsent _ hdata)

theorem State.sendHead_follows (s : State) (p : Port) (d : Descriptor) (rest : List Descriptor) : s.EntriesFollow (s.sendHead p d rest) := by
  simp only [State.sendHead]
  split
  · exact State.entriesFollow_of_eq (by simp)
  · exact (State.entriesFollow_of_eq (by simp)).trans (State.completed_follows ..)

theorem State.dataDropped_follows (s : State) (d : Descriptor) : s.EntriesFollow (s.dataDropped d) := by
  unfold State.dataDropped
  split
  · exact .refl s
  · next r _ =>
    split
    · exact .refl s
    · next x hx =>
      have hfewer : s.EntriesFollow (s.setExchange r.index { x with dataWaiting := x.dataWaiting - 1 }) :=
        State.setExchange_follows (State.exchangeAt_exchange hx) ⟨rfl, rfl, id, id⟩
      dsimp only
      split
      · split
        · exact hfewer.trans (State.deliverStatus_follows ..)
        · exact hfewer
      · exact hfewer

theorem State.dropHead_follows (s : State) (p : Port) (d : Descriptor) (rest : List Descriptor) : s.EntriesFollow (s.dropHead p d rest) := by
  have hleft : s.EntriesFollow ((s.setPort p { s.port p with egress := rest }).release d.cells) := State.entriesFollow_of_eq (by simp)
  simp only [State.dropHead]
  split
  · exact hleft.trans (State.dataDropped_follows ..)
  · exact hleft

/-! ## Teardown and bring-up -/

theorem State.endRouted_follows (k : Target) (s : State) (i : EntryIndex) : s.EntriesFollow (s.endRouted k i) := by
  unfold State.endRouted
  split
  · exact .refl s
  · split
    · exact .refl s
    · split
      · exact .refl s
      · split
        · exact State.freeEntry_follows ..
        · exact State.closeAndFree_follows ..

theorem State.endUnheard_follows (s : State) (i : EntryIndex) : s.EntriesFollow (s.endUnheard i) := by
  unfold State.endUnheard
  split
  · exact .refl s
  · next x hx =>
    split
    · next ha => exact State.setExchange_follows hx (Exchange.becomes_closed ha)
    · split
      · next g hg => exact State.enterAborting_follows hx (y := { x with dataWaiting := 0 }) ⟨rfl, rfl, id, id⟩ hg _ nofun
      · exact (State.entriesFollow_of_eq (State.withdrawUnseen_entries ..)).trans (State.freeEntry_follows ..)

theorem State.endInitiatorLink_follows (s : State) : s.EntriesFollow s.endInitiatorLink := by
  unfold State.endInitiatorLink
  refine (State.foldl_follows State.endUnheard_follows allEntries s).congr ?_
  simp only

theorem State.endDependants_follows (s : State) (p : Port) : s.EntriesFollow (s.endDependants p) := by
  unfold State.endDependants
  split
  · exact s.endInitiatorLink_follows.congr (State.endLease_entries ..)
  · exact State.foldl_follows (State.endRouted_follows .t0) ..
  · exact State.foldl_follows (State.endRouted_follows .t1) ..

theorem State.teardown_follows (s : State) (p : Port) (next : PortState) (why : LinkDetail) : s.EntriesFollow (s.teardown p next why) := by
  refine (State.entriesFollow_of_eq ?_).trans (State.endDependants_follows ..)
  simp [State.postLink, State.clearPort]

@[simp] theorem State.launchInit_entries (s : State) (p : Port) : (s.launchInit p).entries = s.entries := by simp [State.launchInit]

@[simp] theorem State.leaveInitWait_entries (s : State) (p : Port) (next : PortState) (failures : Nat) :
    (s.leaveInitWait p next failures).entries = s.entries := by simp [State.leaveInitWait]

@[simp] theorem State.judgeInit_entries (s : State) (p : Port) (f : List Byte) : (s.judgeInit p f).entries = s.entries := by
  unfold State.judgeInit
  split <;> simp [State.enterUp, State.postLink]

/-! ## Reply service -/

theorem State.startService_follows {r : EntryRef} (h : (s.entry r.index).exchange = some x) (n : Snapshot) :
    s.EntriesFollow (s.startService r x n) := by
  simp only [State.startService]
  split
  · exact State.closeAndFree_follows ..
  · refine State.EntriesFollow.congr ?_ (State.enqueueAll_entries ..)
    exact State.setExchange_follows h ⟨rfl, rfl, id, id⟩

theorem State.serve_follows (s : State) (r : EntryRef) : s.EntriesFollow (s.serve r) := by
  unfold State.serve
  split
  · exact .refl s
  · next x hx =>
    split
    · exact .refl s
    · split
      · exact State.startService_follows (State.exchangeAt_exchange hx) _
      · exact .refl s

end Sys2Proof.Machine
end

section
/-! What every event does with the exchange table, and the three statements that rest on it (R12, R15; O57, O58, O59). -/

namespace Sys2Proof.Machine

/-! ## Allocation (R11) -/

/-- Entry i is FREE and `x` is a legal exchange whose pair no open entry holds: what a verdict allocates (R11, R15, R48). -/
structure State.Allocates (s : State) (i : EntryIndex) (x : Exchange) : Prop where
  free : (s.entry i).exchange = none
  legal : x.Legal
  pair : s.openEntry x.initiator x.tag = none

/-- What an event does with the entries: they follow, or one is allocated first. -/
def State.Advances (s t : State) : Prop :=
  s.EntriesFollow t ∨ ∃ i x, s.Allocates i x ∧ (s.allocate i x).EntriesFollow t

theorem State.Advances.congr {s t u : State} (h : s.Advances t) (k : u.entries = t.entries) : s.Advances u :=
  h.imp (·.congr k) fun ⟨i, x, ha, hf⟩ => ⟨i, x, ha, hf.congr k⟩

theorem State.Allocates.congr {s t : State} {i : EntryIndex} {x : Exchange} (h : s.Allocates i x) (k : t.entries = s.entries) : t.Allocates i x := by
  refine ⟨by rw [State.entry_congr k]; exact h.free, h.legal, ?_⟩
  have hp := h.pair
  unfold State.openEntry at hp ⊢
  simpa only [State.entry_congr k] using hp

theorem State.allocate_entries {s t : State} (h : t.entries = s.entries) (i : EntryIndex) (x : Exchange) :
    (t.allocate i x).entries = (s.allocate i x).entries := by
  simp only [State.allocate, State.setEntry, State.entry, h]

/-- An event that begins with a change of no entry. -/
theorem State.Advances.of_eq {s t u : State} (h : t.entries = s.entries) (k : t.Advances u) : s.Advances u := by
  refine k.imp (State.entriesFollow_of_eq h).trans fun ⟨i, x, ha, hf⟩ => ⟨i, x, ha.congr h.symm, ?_⟩
  exact (State.entriesFollow_of_eq (State.allocate_entries h i x)).trans hf

/-- The opening values of R11 are legal in every kind of exchange, with routing for kind DATA alone. -/
theorem openingExchange_legal (q : Request) (state : EntryState) (kind : ExchangeKind) (hs : state ≠ .aborting)
    {routing : Option Routing} (hr : routing.isSome = true ↔ kind = .data) :
    Exchange.Legal { openingExchange q state kind with routing := routing } := by
  refine ⟨⟨Nat.zero_le _, ?_, ?_⟩, hr, nofun, fun ha => absurd ha hs⟩
  · simp only [openingExchange]
    split <;> simp_all
  · simp only [openingExchange]
    split <;> simp

/-! ## The verdict -/

/-- The entry a verdict admits to, if it admits. -/
def Verdict.admitsTo : Verdict → Option EntryIndex
  | .refuse .. => none
  | .manage i => some i
  | .hold i .. => some i
  | .reply i .. => some i
  | .issue i .. => some i

theorem State.judgeLink_admitsTo {s : State} {i j : EntryIndex} {k : ViewIndex} {v : View} (h : (s.judgeLink i k v).admitsTo = some j) :
    i = j := by
  unfold State.judgeLink at h
  split at h
  · exact Option.some.inj h
  · cases h

theorem State.judgeReply_admitsTo {s : State} {i j : EntryIndex} {k : ViewIndex} {v : View} {q : Request}
    (h : (s.judgeReply i k v q).admitsTo = some j) : i = j := by
  unfold State.judgeReply at h
  split at h
  · split at h
    · split at h
      · exact Option.some.inj h
      · exact State.judgeLink_admitsTo h
    · exact State.judgeLink_admitsTo h
  · exact State.judgeLink_admitsTo h

theorem State.judgeHold_admitsTo {s : State} {i j : EntryIndex} {k : ViewIndex} {v : View} {q : Request}
    (h : (s.judgeHold i k v q).admitsTo = some j) : i = j := by
  unfold State.judgeHold at h
  split at h
  · split at h
    · exact Option.some.inj h
    · cases h
  · exact State.judgeReply_admitsTo h

theorem State.judgeStorage_admitsTo {s : State} {i j : EntryIndex} {q : Request} (h : (s.judgeStorage i q).admitsTo = some j) : i = j := by
  unfold State.judgeStorage at h
  split at h
  · cases h
  · split at h
    · cases h
    · exact State.judgeHold_admitsTo h

theorem State.lowestFree_some {s : State} {i : EntryIndex} (h : s.lowestFree = some i) : (s.entry i).exchange = none := by
  unfold State.lowestFree at h
  have hi := List.find?_some h
  exact Option.isNone_iff_eq_none.1 hi

/-- Step 4 has found no open entry of the pair (R48). -/
theorem State.openEntry_of_initiatorCode {s : State} {q : Request} (h : s.initiatorCode q = none) : s.openEntry q.initiator q.tag = none := by
  unfold State.initiatorCode at h
  split at h
  · cases h
  · split at h
    · cases h
    · split at h
      · cases h
      · next hopen => exact Option.not_isSome_iff_eq_none.1 hopen

/-- A verdict that admits has found the entry FREE and the pair held by no open entry (R48, R50). -/
theorem State.judge_admitsTo {s : State} {f : List Byte} {i : EntryIndex} (h : (s.judge f).admitsTo = some i) :
    (s.entry i).exchange = none ∧ s.openEntry (readRequest f).initiator (readRequest f).tag = none := by
  simp only [State.judge] at h
  split at h
  · cases h
  · split at h
    · cases h
    · next hcode =>
      split at h
      · cases h
      · next j hj =>
        have hi : j = i := by
          split at h
          · exact Option.some.inj h
          · exact State.judgeStorage_admitsTo h
        subst hi
        exact ⟨State.lowestFree_some hj, State.openEntry_of_initiatorCode hcode⟩

theorem State.admitManagement_advances {s : State} {i : EntryIndex} {f : List Byte} (hfree : (s.entry i).exchange = none)
    (hpair : s.openEntry (readRequest f).initiator (readRequest f).tag = none) : s.Advances (s.admitManagement i f) := by
  have hx : (managementExchange f).Legal := openingExchange_legal (readRequest f) .mgmtAnswer .mgmt (by decide) (routing := none) (by simp)
  have hown : ((s.allocate i (managementExchange f)).entry i).exchange = some (managementExchange f) := by
    unfold State.allocate; rw [State.setEntry_entry_self]
  simp only [State.admitManagement]
  split
  · next hbody =>
    split
    · have hawait : (s.awaitingBody (managementExchange f)).Legal := by
        refine ⟨⟨Nat.zero_le _, ?_, le_refl _⟩, hx.2.1, nofun, nofun⟩
        exact ⟨fun _ => hbody.1, fun _ => rfl⟩
      exact .inr ⟨i, _, ⟨hfree, hawait, hpair⟩, State.entriesFollow_of_eq (State.enqueue_entries ..)⟩
    · exact .inr ⟨i, _, ⟨hfree, hx, hpair⟩, State.conclude_follows (r := refuseOp (s.allocate i _) codeBadBody) hown⟩
  · exact .inr ⟨i, _, ⟨hfree, hx, hpair⟩, State.performOperation_follows hown rfl rfl⟩

theorem State.admitHeld_advances {s : State} {i : EntryIndex} {f : List Byte} (hfree : (s.entry i).exchange = none)
    (hpair : s.openEntry (readRequest f).initiator (readRequest f).tag = none) (k : ViewIndex) (v : View) :
    s.Advances (s.admitHeld i k v f) := by
  refine .inr ⟨i, _, ⟨hfree, ?_, hpair⟩, State.entriesFollow_of_eq (State.post_entries ..)⟩
  exact openingExchange_legal (readRequest f) .held .data (by decide) (routing := some _) (by simp)

theorem State.admitReply_advances {s : State} {i : EntryIndex} {f : List Byte} (hfree : (s.entry i).exchange = none)
    (hpair : s.openEntry (readRequest f).initiator (readRequest f).tag = none) (k : ViewIndex) (r : ReplyIndex) (record : ReplyRecord) :
    s.Advances (s.admitReply i k r record f) := by
  refine .inr ⟨i, _, ⟨hfree, ?_, hpair⟩, State.entriesFollow_of_eq (State.allocate_entries (t := (s.takeCells _).discard f) rfl i _)⟩
  exact openingExchange_legal (readRequest f) .replying .queryReply (by decide) (routing := none) (by simp)

theorem State.admitIssued_advances {s : State} {i : EntryIndex} {f : List Byte} (hfree : (s.entry i).exchange = none)
    (hpair : s.openEntry (readRequest f).initiator (readRequest f).tag = none) (k : ViewIndex) (v : View) :
    s.Advances (s.admitIssued i k v f) := by
  refine .inr ⟨i, _, ⟨hfree, ?_, hpair⟩, State.entriesFollow_of_eq (State.enqueue_entries ..)⟩
  exact openingExchange_legal (readRequest f) .issued .data (by decide) (routing := some _) (by simp)

theorem State.postDenial_entries (s : State) (f : List Byte) (code : Byte) (d : Option (ViewIndex × View)) :
    (s.postDenial f code d).entries = s.entries := by
  unfold State.postDenial
  split
  · rfl
  · split
    · exact State.post_entries ..
    · rfl

theorem State.takeRequest_advances (s : State) (f : List Byte) : s.Advances (s.takeRequest f) := by
  unfold State.takeRequest
  split
  · exact .inl ((State.discard_follows ..).congr (State.post_entries ..))
  · have hadmit : ∀ i, (s.judge f).admitsTo = some i → _ := fun i => State.judge_admitsTo
    unfold State.giveVerdict
    split
    · refine .inl (State.entriesFollow_of_eq ((State.postDenial_entries ..).trans (State.enqueue_entries ..)))
    · next i hv => obtain ⟨hfree, hpair⟩ := hadmit i (by rw [hv]; rfl); exact State.admitManagement_advances hfree hpair
    · next i k v hv => obtain ⟨hfree, hpair⟩ := hadmit i (by rw [hv]; rfl); exact State.admitHeld_advances hfree hpair k v
    · next i k r record hv => obtain ⟨hfree, hpair⟩ := hadmit i (by rw [hv]; rfl); exact State.admitReply_advances hfree hpair k r record
    · next i k v hv => obtain ⟨hfree, hpair⟩ := hadmit i (by rw [hv]; rfl); exact State.admitIssued_advances hfree hpair k v

/-! ## Every event -/

/-- The event advances the entries of every state in which it occurs. -/
def Advancing (f : State → Option State) : Prop := ∀ s t, f s = some t → s.Advances t

theorem advances_refl (s : State) : s.Advances s := .inl (.refl s)

theorem Advancing.event {f : State → Option State} (h : Advancing f) {s t : State} (hs : event f s = .next t) : s.Advances t := by
  obtain heq | ⟨u, -, hu, heq⟩ := event_cases f s
  · cases heq.symm.trans hs; exact advances_refl s
  · cases heq.symm.trans hs; exact (h s u hu).congr (State.settle_entries u)

theorem Advancing.plainEvent {f : State → Option State} (h : Advancing f) {s t : State} (hs : plainEvent f s = .next t) : s.Advances t := by
  obtain heq | ⟨u, -, hu, heq⟩ := plainEvent_cases f s
  · cases heq.symm.trans hs; exact advances_refl s
  · cases heq.symm.trans hs; exact h s t hu

/-- An event that takes an arrived frame. -/
theorem Advancing.of_taken {take : State → Option (List Byte × State)} {rule : List Byte → State → State}
    (htake : ∀ s f u, take s = some (f, u) → u.entries = s.entries) (hrule : ∀ f (u : State), u.Advances (rule f u)) :
    Advancing fun s => (take s).map fun (f, u) => rule f u := by
  intro s t h
  obtain ⟨⟨f, u⟩, htaken, rfl⟩ := Option.map_eq_some_iff.1 h
  exact .of_eq (htake s f u htaken) (hrule f u)

/-- An event of an entry's timer. -/
theorem Advancing.of_expired {i : EntryIndex} {k : DeadlineKind} {rule : State → Exchange → State}
    (hrule : ∀ (s : State) x, (s.entry i).exchange = some x → s.EntriesFollow (rule s x)) :
    Advancing fun s => (s.expired i k).map (rule s) := by
  intro s t h
  obtain ⟨x, hx, rfl⟩ := Option.map_eq_some_iff.1 h
  exact .inl (hrule s x (State.expired_exchange hx))

theorem verdictEvent_advancing : Advancing verdictEvent :=
  .of_taken (take := fun s => s.takeNext .admission .i) (rule := fun f u => u.takeRequest f) (fun _ _ _ => State.takeNext_entries)
    fun f u => u.takeRequest_advances f

theorem initiatorDataEvent_advancing : Advancing initiatorDataEvent :=
  .of_taken (take := fun s => s.takeKind .i kindData) (rule := fun f u => u.takeInitiatorData f) (fun _ _ _ => State.takeKind_entries)
    fun f u => .inl (u.takeInitiatorData_follows f)

theorem initiatorAbortEvent_advancing : Advancing initiatorAbortEvent :=
  .of_taken (take := fun s => s.takeKind .i kindAbort) (rule := fun f u => u.takeAbort f) (fun _ _ _ => State.takeKind_entries)
    fun f u => .inl (u.takeAbort_follows f)

theorem targetProceedEvent_advancing (k : Target) : Advancing (targetProceedEvent k) :=
  .of_taken (take := fun s => s.takeKind (targetPort k) kindProceed) (rule := fun f u => u.takeTargetFrame k f (u.proceedRule k f))
    (fun _ _ _ => State.takeKind_entries) fun f _ => .inl (State.takeTargetFrame_follows k f fun _ _ g h => State.proceedRule_follows k f g h)

theorem targetDataEvent_advancing (k : Target) : Advancing (targetDataEvent k) :=
  .of_taken (take := fun s => s.takeKind (targetPort k) kindData) (rule := fun f u => u.takeTargetFrame k f (u.targetDataRule k f))
    (fun _ _ _ => State.takeKind_entries) fun f _ => .inl (State.takeTargetFrame_follows k f fun _ _ g h => State.targetDataRule_follows k f g h)

theorem targetStatusEvent_advancing (k : Target) : Advancing (targetStatusEvent k) :=
  .of_taken (take := fun s => s.takeKind (targetPort k) kindStatus) (rule := fun f u => u.takeTargetFrame k f (u.statusRule k f))
    (fun _ _ _ => State.takeKind_entries) fun f _ => .inl (State.takeTargetFrame_follows k f fun _ _ g h => State.statusRule_follows k f g h)

theorem targetAbortDoneEvent_advancing (k : Target) : Advancing (targetAbortDoneEvent k) :=
  .of_taken (take := fun s => s.takeKind (targetPort k) kindAbortDone) (rule := fun f u => u.takeTargetFrame k f (u.abortDoneRule k f))
    (fun _ _ _ => State.takeKind_entries) fun f u => .inl (State.takeTargetFrame_follows k f fun i x g _ => u.abortDoneRule_follows k f i x g)

theorem unknownKindEvent_advancing (p : Port) : Advancing (unknownKindEvent p) :=
  .of_taken (take := fun s => s.takeNext .sorter p) (rule := fun f u => (u.discard f).postStaleLink p (sorterDetail f))
    (fun _ _ _ => State.takeNext_entries) fun f u => .inl ((u.discard_follows f).congr (State.post_entries ..))

theorem State.postWrongLink_entries (s : State) (p : Port) (f : List Byte) : (s.postWrongLink p f).entries = s.entries := by
  unfold State.postWrongLink
  split
  · exact State.post_entries ..
  · exact State.post_entries ..

theorem wrongLinkEvent_advancing (p : Port) : Advancing (wrongLinkEvent p) := by
  intro s t h
  unfold wrongLinkEvent at h
  split at h
  · next f u htaken =>
    split at h
    · cases h
      exact .of_eq (State.takeNext_entries htaken) (.inl ((u.discard_follows f).congr (State.postWrongLink_entries ..)))
    · cases h
  · cases h

theorem exchangeExpiryEvent_advancing (i : EntryIndex) : Advancing (exchangeExpiryEvent i) :=
  .of_expired (k := .exchange) fun _ _ h => (State.endWithStatus_follows h _ _).congr (State.post_entries ..)

theorem graceExpiryEvent_advancing (i : EntryIndex) : Advancing (graceExpiryEvent i) := by
  refine .of_expired (k := .grace) (rule := fun s x => if x.closed then s.freeEntry i
    else (s.enqueue .i (s.ofEntry i (.made (abortDoneFrame x)))).freeEntry i) fun s x _ => ?_
  split
  · exact State.freeEntry_follows ..
  · exact (State.entriesFollow_of_eq (State.enqueue_entries ..)).trans (State.freeEntry_follows ..)

theorem holdExpiryEvent_advancing (i : EntryIndex) : Advancing (holdExpiryEvent i) :=
  .of_expired (k := .hold) fun s x _ => (s.closeAndFree_follows i x _).congr (State.post_entries ..)

theorem bodyExpiryEvent_advancing (i : EntryIndex) : Advancing (bodyExpiryEvent i) :=
  .of_expired (k := .body) fun s x _ => (s.closeAndFree_follows i x _).congr (State.post_entries ..)

theorem leaseExpiryEvent_advancing : Advancing leaseExpiryEvent := by
  intro s t h
  unfold leaseExpiryEvent at h
  split at h
  · obtain ⟨-, ⟨⟩⟩ := Option.ite_none_right_eq_some.1 h
    exact .inl (State.entriesFollow_of_eq (State.endLease_entries ..))
  · cases h

theorem resendExpiryEvent_advancing : Advancing resendExpiryEvent := by
  intro s t h
  unfold resendExpiryEvent at h
  split at h
  · split at h
    · obtain ⟨-, ⟨⟩⟩ := Option.ite_none_right_eq_some.1 h
      exact .inl (State.entriesFollow_of_eq (State.enqueue_entries ..))
    · cases h
  · cases h

theorem resyncCompletionEvent_advancing : Advancing resyncCompletionEvent := by
  intro s t h
  unfold resyncCompletionEvent at h
  split at h
  · obtain ⟨-, ⟨⟩⟩ := Option.ite_none_right_eq_some.1 h
    exact .inl (State.entriesFollow_of_eq ((State.post_entries ..).trans (State.setStaging_entries ..)))
  · cases h

theorem replyServiceEvent_advancing : Advancing replyServiceEvent := by
  intro s t h
  unfold replyServiceEvent at h
  split at h
  · cases h
  · next r rest _ =>
    cases h
    exact .of_eq (t := { s with startList := rest }) rfl (.inl (State.serve_follows ..))

theorem transmissionEvent_advancing (p : Port) : Advancing (transmissionEvent p) := by
  intro s t h
  unfold transmissionEvent at h
  split at h
  · cases h
  · obtain ⟨-, ⟨⟩⟩ := Option.ite_none_right_eq_some.1 h
    exact .inl (State.sendHead_follows ..)

theorem headDiscardEvent_advancing (p : Port) : Advancing (headDiscardEvent p) := by
  intro s t h
  unfold headDiscardEvent at h
  split at h
  · cases h
  · obtain ⟨-, ⟨⟩⟩ := Option.ite_none_right_eq_some.1 h
    exact .inl (State.dropHead_follows ..)

theorem signalPresentEvent_advancing (p : Port) : Advancing (signalPresentEvent p) := by
  intro s t h
  obtain ⟨-, ⟨⟩⟩ := Option.ite_none_right_eq_some.1 h
  exact .inl (State.entriesFollow_of_eq (State.setPort_entries ..))

theorem laneLockEvent_advancing (p : Port) : Advancing (laneLockEvent p) := by
  intro s t h
  obtain ⟨-, ⟨⟩⟩ := Option.ite_none_right_eq_some.1 h
  exact .inl (State.entriesFollow_of_eq (State.launchInit_entries ..))

theorem signalLossEvent_advancing (p : Port) : Advancing (signalLossEvent p) := by
  intro s t h
  unfold signalLossEvent at h
  split at h
  · cases h; exact .inl (State.teardown_follows ..)
  · cases h; exact .inl (State.entriesFollow_of_eq (State.leaveInitWait_entries ..))

theorem initWaitExpiryEvent_advancing (p : Port) : Advancing (initWaitExpiryEvent p) := by
  intro s t h
  simp only [initWaitExpiryEvent] at h
  split at h
  · split at h
    · cases h; exact .inl (State.entriesFollow_of_eq (State.leaveInitWait_entries ..))
    · cases h; exact .inl (State.entriesFollow_of_eq ((State.post_entries ..).trans (State.leaveInitWait_entries ..)))
  · cases h

theorem receiveInit_advancing (p : Port) (f : List Byte) : Advancing (receiveInit p f) := by
  intro s t h
  unfold receiveInit at h
  split at h
  · cases h
  · split at h
    · cases h; exact .inl (State.entriesFollow_of_eq (State.judgeInit_entries ..))
    · cases h
      exact .inl ((State.teardown_follows ..).congr ((State.judgeInit_entries ..).trans (State.launchInit_entries ..)))
    · cases h
    · cases h
    · cases h

theorem creditArrivalEvent_advancing (p : Port) (f : List Byte) : Advancing (creditArrivalEvent p f) := by
  intro s t h
  simp only [creditArrivalEvent] at h
  split at h
  · cases h
  · split at h
    · cases h
      exact .inl ((State.entriesFollow_of_eq (State.post_entries ..)).trans (State.teardown_follows ..))
    · cases h; exact .inl (State.entriesFollow_of_eq (State.setPort_entries ..))

theorem creditSendEvent_advancing (p : Port) : Advancing (creditSendEvent p) := by
  intro s t h
  obtain ⟨-, ⟨⟩⟩ := Option.ite_none_right_eq_some.1 h
  exact .inl (State.entriesFollow_of_eq (State.setPort_entries ..))

theorem State.storeArrival_entries (s : State) (p : Port) (f : List Byte) : (s.storeArrival p f).entries = s.entries := by
  simp only [State.storeArrival]
  split
  · exact (State.post_entries ..).trans (State.setPort_entries ..)
  · exact State.setPort_entries ..

theorem creditedArrivalEvent_advancing (p : Port) (f : List Byte) : Advancing (creditedArrivalEvent p f) := by
  intro s t h
  unfold creditedArrivalEvent at h
  split at h
  · cases h
  · split at h
    · cases h
      exact .inl ((State.entriesFollow_of_eq (State.post_entries ..)).trans (State.teardown_follows ..))
    · cases h; exact .inl (State.entriesFollow_of_eq (State.storeArrival_entries ..))

theorem clockTick_advancing : Advancing clockTick := by
  rintro s t ⟨⟩
  exact .inl (State.entriesFollow_of_eq rfl)

/-- A management command is the verdict or the body frame that performs it. -/
theorem performanceEvent_advancing (op : MgmtOp) (w : PerformedAt) : Advancing (performanceEvent op w) := by
  intro s t h
  cases w with
  | verdict => exact verdictEvent_advancing s t (Option.ite_none_right_eq_some.1 h).2
  | lastBodyFrame => exact initiatorDataEvent_advancing s t (Option.ite_none_right_eq_some.1 h).2

/-- Every command but the two of the reset pin advances the entries. -/
theorem exec_advances {c : Instr} {s t : State} (h1 : c ≠ .powerOnReset) (h2 : c ≠ .resetPinAssertion) (h : exec c s = .next t) :
    s.Advances t := by
  cases c with
  | powerOnReset => exact absurd rfl h1
  | resetPinAssertion => exact absurd rfl h2
  | signalPresent p => exact (signalPresentEvent_advancing p).plainEvent h
  | laneLock p => exact (laneLockEvent_advancing p).plainEvent h
  | signalLoss p => exact (signalLossEvent_advancing p).event h
  | initWaitExpiry p => exact (initWaitExpiryEvent_advancing p).event h
  | initArrival p f | peerRestart p f => exact (receiveInit_advancing p f).event h
  | creditArrival p f => exact (creditArrivalEvent_advancing p f).event h
  | creditedFrameArrival p f => exact (creditedArrivalEvent_advancing p f).event h
  | creditSend p => exact (creditSendEvent_advancing p).plainEvent h
  | unknownKindDiscard p => exact (unknownKindEvent_advancing p).event h
  | wrongLinkFrame p => exact (wrongLinkEvent_advancing p).event h
  | verdict => exact verdictEvent_advancing.event h
  | targetProceed k => exact (targetProceedEvent_advancing k).event h
  | targetData k => exact (targetDataEvent_advancing k).event h
  | targetStatus k => exact (targetStatusEvent_advancing k).event h
  | targetAbortDone k => exact (targetAbortDoneEvent_advancing k).event h
  | initiatorData => exact initiatorDataEvent_advancing.event h
  | initiatorAbort => exact initiatorAbortEvent_advancing.event h
  | exchangeDeadlineExpiry i => exact (exchangeExpiryEvent_advancing i).event h
  | graceExpiry i => exact (graceExpiryEvent_advancing i).event h
  | holdExpiry i => exact (holdExpiryEvent_advancing i).event h
  | bodyDeadlineExpiry i => exact (bodyExpiryEvent_advancing i).event h
  | leaseExpiry => exact leaseExpiryEvent_advancing.event h
  | resendDeadlineExpiry => exact resendExpiryEvent_advancing.event h
  | resyncCompletion => exact resyncCompletionEvent_advancing.event h
  | replyServiceStart => exact replyServiceEvent_advancing.event h
  | transmission p => exact (transmissionEvent_advancing p).event h
  | headDiscard p => exact (headDiscardEvent_advancing p).event h
  | identify w | claim w | renew w | releaseLease w | readEntry w | writeEntry w | clearStaging w | commit w | readExchange w | holdList w
  | holdDecide w | alertAck w | endExchange w | linkState w | warmReset w => exact (performanceEvent_advancing _ w).event h
  | millisecondClockAdvance => exact clockTick_advancing.plainEvent h

/-! ## The statements -/

/-- Settles O59: an advance keeps the incarnation of every entry it does not allocate. -/
theorem incarnationsChangeAtAllocationAlone : Obligations.IncarnationsChangeAtAllocationAlone := by
  intro c s t i h1 h2 h
  obtain hf | ⟨j, x, ha, hf⟩ := exec_advances h1 h2 h
  · exact .inl (hf.entry i).1
  · have hi := (hf.entry i).1
    unfold State.allocate at hi
    rw [State.setEntry_entry] at hi
    split at hi
    · next hij => subst hij; exact .inr ⟨ha.free, hi⟩
    · exact .inl hi

/-- After a command of the reset pin every entry is FREE (R165). -/
theorem State.powerOn_exchange (s : State) (pin : Bool) (i : EntryIndex) : ((s.powerOn pin).entry i).exchange = none := by
  simp [State.powerOn, State.reset, State.entry]

/-- What a step does with the entries: every one is FREE after a command of the reset pin, else the step advances them. -/
theorem step_entries {s t : State} (h : step s = .next t) : (∀ i, (t.entry i).exchange = none) ∨ s.Advances t := by
  unfold step at h
  split at h
  · cases h; exact .inr (advances_refl s)
  · next c rest _ =>
    by_cases h1 : c = .powerOnReset
    · subst h1; cases h; exact .inl (State.powerOn_exchange _ _)
    · by_cases h2 : c = .resetPinAssertion
      · subst h2; cases h; exact .inl (State.powerOn_exchange _ _)
      · exact .inr (.of_eq (t := { s with pending := rest }) rfl (exec_advances h1 h2 h))

theorem State.EntriesFollow.exchangesOk {s t : State} (h : s.EntriesFollow t) (hs : s.exchangesOk) : t.exchangesOk := by
  intro i y hy
  obtain ⟨x, hx, hxy⟩ := (h.entry i).2 y hy
  exact hxy.legal (hs i x hx)

theorem State.Allocates.exchangesOk {s : State} {i : EntryIndex} {x : Exchange} (h : s.Allocates i x) (hs : s.exchangesOk) :
    (s.allocate i x).exchangesOk := by
  intro j y hy
  unfold State.allocate at hy
  rw [State.setEntry_entry] at hy
  split at hy
  · cases hy; exact h.legal
  · exact hs j y hy

/-- Settles O57: what an event makes of a legal exchange is legal, and so is the exchange a verdict opens. -/
theorem eventsKeepExchanges : Obligations.EventsKeepExchanges := by
  intro s t hs h
  obtain hfree | hf | ⟨i, x, ha, hf⟩ := step_entries h
  · intro i x hx; rw [hfree i] at hx; cases hx
  · exact hf.exchangesOk hs
  · exact hf.exchangesOk (ha.exchangesOk hs)

theorem State.EntriesFollow.pairsOk {s t : State} (h : s.EntriesFollow t) (hs : s.pairsOk) : t.pairsOk :=
  fun n k i j hi hj => hs n k i j ((h.entry i).holdsPair hi) ((h.entry j).holdsPair hj)

/-- The open pairs after an allocation: the new exchange's, and those of the other entries. -/
theorem State.allocate_holdsPair {s : State} {i j : EntryIndex} {x : Exchange} {n : InitiatorId} {k : Tag}
    (hj : ((s.allocate i x).entry j).holdsPair n k) : j = i ∧ x.initiator = n ∧ x.tag = k ∨ j ≠ i ∧ (s.entry j).holdsPair n k := by
  unfold State.allocate at hj
  rw [State.setEntry_entry] at hj
  split at hj
  · next hji =>
    simp only [Entry.holdsPair, Option.any_some, Bool.and_eq_true, beq_iff_eq] at hj
    exact .inl ⟨hji, hj.1.2, hj.2⟩
  · next hji => exact .inr ⟨hji, hj⟩

/-- The new exchange's pair is held by no other open entry (R48). -/
theorem State.Allocates.pairsOk {s : State} {i : EntryIndex} {x : Exchange} (h : s.Allocates i x) (hs : s.pairsOk) :
    (s.allocate i x).pairsOk := by
  intro n k a b ha hb
  obtain ⟨hai, hn, hk⟩ | ⟨-, ha⟩ := State.allocate_holdsPair ha
  · obtain ⟨hbi, -⟩ | ⟨-, hb⟩ := State.allocate_holdsPair hb
    · exact hai.trans hbi.symm
    · exact absurd (hn ▸ hk ▸ hb) (State.openEntry_none h.pair b)
  · obtain ⟨-, hn, hk⟩ | ⟨-, hb⟩ := State.allocate_holdsPair hb
    · exact absurd (hn ▸ hk ▸ ha) (State.openEntry_none h.pair a)
    · exact hs n k a b ha hb

/-- Settles O58: an event keeps the pair of an exchange, never reopens one, and opens one only for a pair that no open entry holds. -/
theorem eventsKeepPairsUnique : Obligations.EventsKeepPairsUnique := by
  intro s t hs h
  obtain hfree | hf | ⟨i, x, ha, hf⟩ := step_entries h
  · intro n k i j hi; unfold Entry.holdsPair at hi; rw [hfree i] at hi; cases hi
  · exact hf.pairsOk hs
  · exact hf.pairsOk (ha.pairsOk hs)

end Sys2Proof.Machine
end

section
/-! The state after power-on reset meets the invariants (R21, R26, R104, R111, R126, R165). -/

namespace Sys2Proof.Machine

theorem State.reset_entry (i : EntryIndex) : State.reset.entry i = {} := by simp [State.reset, State.entry]

theorem State.reset_exchange (i : EntryIndex) : (State.reset.entry i).exchange = none := by rw [State.reset_entry]

theorem State.reset_port (p : Port) : State.reset.port p = {} := by cases p <;> rfl

theorem State.reset_settled : State.reset.settled := by
  refine ⟨.inr fun p => ?_, fun h => h.2.2 rfl⟩
  simp [State.eligible, State.isUp, State.reset_port]

theorem State.reset_linksOk : State.reset.linksOk := by
  intro p
  unfold State.linkOk
  rw [State.reset_port]
  exact ⟨fun _ => ⟨rfl, rfl, rfl, rfl, rfl, rfl⟩, rfl, ⟨rfl, rfl⟩, ⟨Nat.zero_le _, fun _ => by decide⟩, Nat.zero_le _, Nat.zero_le _,
    Nat.zero_le _⟩

/-- Every cell is free: no port holds credit, a queue or a frame, and no entry an exchange (R111). -/
theorem State.reset_cellsConserved : State.reset.cellsConserved := by
  have hentries : (allEntries.map fun i => (State.reset.entry i).cells).sum = 0 :=
    List.sum_eq_zero (by simp [State.reset_entry, Entry.cells])
  have hports : (allPorts.map fun p => queueCells (State.reset.port p).egress + (State.reset.port p).arrivedCells).sum = 0 := rfl
  have hreserved : State.reset.reservedCells = 0 := rfl
  rw [State.cellsConserved, State.storedCells, hentries, hports, hreserved]
  rfl

theorem State.reset_deliveryOk : State.reset.deliveryOk :=
  ⟨Nat.zero_le _, Nat.zero_le _, nofun, ⟨rfl, rfl, rfl⟩, nofun⟩

theorem State.reset_holdsOk : State.reset.holdsOk :=
  ⟨fun i x h => absurd h (by rw [State.reset_exchange]; nofun), nofun, fun i x h => absurd h (by rw [State.reset_exchange]; nofun),
    List.nodup_nil, Nat.zero_le _⟩

theorem State.reset_startOk : State.reset.startOk :=
  ⟨List.nodup_nil, Nat.zero_le _, nofun, fun i x n h => absurd h (by rw [State.reset_exchange]; nofun)⟩

theorem State.reset_exchangesOk : State.reset.exchangesOk := fun i x h => absurd h (by rw [State.reset_exchange]; nofun)

theorem State.reset_pairsOk : State.reset.pairsOk := fun n t i j h => by
  unfold Entry.holdsPair at h
  rw [State.reset_exchange] at h
  cases h

/-- Settles O60: every port is at its defaults, every entry FREE, every list empty. -/
theorem resetMeetsEveryInvariant : Obligations.ResetMeetsEveryInvariant :=
  ⟨State.reset_settled, State.reset_linksOk, State.reset_cellsConserved, State.reset_deliveryOk, State.reset_holdsOk, State.reset_startOk,
    State.reset_exchangesOk, State.reset_pairsOk⟩

end Sys2Proof.Machine
end

section
/-! Frames that are dropped: of unknown kind, of a wrong link, too short, stale (R8, R16, R46, R62, R66, R67, R69, R73, R83). -/

namespace Sys2Proof.Machine

/-! ## A discarded frame and its alert -/

/-- The frame's cells are free and one alert is posted; nothing else has changed. -/
theorem State.discard_post (u : State) (f : List Byte) (a : Alert) :
    u.onlyDiscards ((u.discard f).post a) f ∧ u.posted ((u.discard f).post a) a :=
  ⟨State.post_onlyDiscards (u.discard_onlyDiscards f) a,
    State.posted_of (by rw [State.post_alerts, State.post_alerts]; rfl) (by rw [State.post_dropped, State.post_dropped]; rfl)⟩

theorem State.takeNext_clock {s u : State} {c : Consumer} {p : Port} {f : List Byte} (h : s.takeNext c p = some (f, u)) : u.clock = s.clock := by
  obtain ⟨rest, -, rfl⟩ := State.takeNext_some h
  exact State.setPort_clock ..

theorem State.takeKind_clock {s u : State} {p : Port} {k : Byte} {f : List Byte} (h : s.takeKind p k = some (f, u)) : u.clock = s.clock :=
  State.takeNext_clock (State.takeKind_some h).2

theorem isShort_eq_true {f : List Byte} (h : f.length < 4) : isShort f = true := decide_eq_true h

theorem isShort_eq_false {f : List Byte} (h : 4 ≤ f.length) : isShort f = false := decide_eq_false (Nat.not_lt.2 h)

/-! ## What a command that takes a frame answers -/

section
variable {s u : State} {f : List Byte}

theorem exec_unknownKindDiscard {p : Port} (hp : s.resetPin = false) (h : s.takeNext .sorter p = some (f, u)) :
    exec (.unknownKindDiscard p) s = .next ((u.discard f).postStaleLink p (sorterDetail f)).settle :=
  event_occurs (f := unknownKindEvent p) hp (by simp [unknownKindEvent, h])

theorem exec_wrongLinkFrame {p : Port} {k : Byte} (hp : s.resetPin = false) (h : s.takeKind p k = some (f, u)) (hk : wrongKind p k = true) :
    exec (.wrongLinkFrame p) s = .next ((u.discard f).postWrongLink p f).settle := by
  obtain ⟨hkind, hnext⟩ := State.takeKind_some h
  exact event_occurs (f := wrongLinkEvent p) hp (by simp [wrongLinkEvent, hnext, hkind, hk])

theorem exec_verdict (hp : s.resetPin = false) (h : s.takeNext .admission .i = some (f, u)) :
    exec .verdict s = .next (u.takeRequest f).settle :=
  event_occurs (f := verdictEvent) hp (by simp [verdictEvent, h])

theorem initiatorDataEvent_eq (h : s.takeKind .i 0x03#8 = some (f, u)) : initiatorDataEvent s = some (u.takeInitiatorData f) := by
  simp [initiatorDataEvent, kindData, h]

theorem exec_initiatorData (hp : s.resetPin = false) (h : s.takeKind .i 0x03#8 = some (f, u)) :
    exec .initiatorData s = .next (u.takeInitiatorData f).settle :=
  event_occurs hp (initiatorDataEvent_eq h)

theorem exec_initiatorAbort (hp : s.resetPin = false) (h : s.takeKind .i 0x05#8 = some (f, u)) :
    exec .initiatorAbort s = .next (u.takeAbort f).settle :=
  event_occurs (f := initiatorAbortEvent) hp (by simp [initiatorAbortEvent, kindAbort, h])

/-- The four commands of target frames share all but the rule of the kind, and the rules share what they do with an entry whose STATUS is
parked. -/
theorem exec_targetFrame {t : Target} {k : Byte} {c : Instr} (hc : (k, c) ∈ targetFrames t) (hp : s.resetPin = false)
    (h : s.takeKind (targetPort t) k = some (f, u)) :
    ∃ rule, exec c s = .next (u.takeTargetFrame t f rule).settle
      ∧ (∀ i x g, x.parked ≠ none → rule i x g = if k = 0x06#8 then u.discard f else u.afterStatus t i f)
      ∧ (∀ i x g, k = 0x06#8 → x.parked = none → x.state ≠ .aborting →
          rule i x g = (u.discard f).postStaleTarget t f .noAbort (some (u.refOf i))) := by
  have hsome : ∀ x : Exchange, x.parked ≠ none → x.parked.isSome = true := fun x => Option.isSome_iff_ne_none.2
  simp only [targetFrames, List.mem_cons, List.not_mem_nil, or_false, Prod.mk.injEq] at hc
  obtain ⟨rfl, rfl⟩ | ⟨rfl, rfl⟩ | ⟨rfl, rfl⟩ | ⟨rfl, rfl⟩ := hc
  · refine ⟨u.proceedRule t f, event_occurs (f := targetProceedEvent t) hp (by simp [targetProceedEvent, kindProceed, h]), ?_,
      fun _ _ _ hk => absurd hk (by decide)⟩
    intro i x g hx; simp [State.proceedRule, hsome x hx]
  · refine ⟨u.targetDataRule t f, event_occurs (f := targetDataEvent t) hp (by simp [targetDataEvent, kindData, h]), ?_,
      fun _ _ _ hk => absurd hk (by decide)⟩
    intro i x g hx; simp [State.targetDataRule, hsome x hx]
  · refine ⟨u.statusRule t f, event_occurs (f := targetStatusEvent t) hp (by simp [targetStatusEvent, kindStatus, h]), ?_,
      fun _ _ _ hk => absurd hk (by decide)⟩
    intro i x g hx; simp [State.statusRule, hsome x hx]
  · refine ⟨u.abortDoneRule t f, event_occurs (f := targetAbortDoneEvent t) hp (by simp [targetAbortDoneEvent, kindAbortDone, h]), ?_, ?_⟩
    · intro i x g hx; simp [State.abortDoneRule, hsome x hx]
    · intro i x g _ hx ha; simp [State.abortDoneRule, hx, ha]

theorem State.takeTargetFrame_of_short {rule : EntryIndex → Exchange → Routing → State} (t : Target) (h : f.length < 4) :
    u.takeTargetFrame t f rule = (u.discard f).postStaleLink (targetPort t) .shortFrame := by
  unfold State.takeTargetFrame
  rw [if_pos (isShort_eq_true h)]

theorem State.takeTargetFrame_of_stale {rule : EntryIndex → Exchange → Routing → State} {t : Target} {d : StaleDetail} {r : Option EntryRef}
    (h4 : 4 ≤ f.length) (h : u.matchTarget t f = .stale d r) :
    u.takeTargetFrame t f rule = if byteAt f 0 = 0x06#8 then u.discard f else (u.discard f).postStaleTarget t f d r := by
  unfold State.takeTargetFrame
  rw [isShort_eq_false h4, h]
  rfl

theorem State.takeTargetFrame_of_matched {rule : EntryIndex → Exchange → Routing → State} {t : Target} {i : EntryIndex} {x : Exchange}
    {g : Routing} (h4 : 4 ≤ f.length) (h : u.matchTarget t f = .matched i x g) : u.takeTargetFrame t f rule = rule i x g := by
  unfold State.takeTargetFrame
  rw [isShort_eq_false h4, h]
  rfl

theorem State.takeInitiatorData_of_matched {i : EntryIndex} {x : Exchange} (h4 : 4 ≤ f.length) (h : u.matchInitiator f = some (i, x)) :
    u.takeInitiatorData f = u.initiatorDataRule i x f := by
  unfold State.takeInitiatorData
  rw [isShort_eq_false h4, h]
  rfl

theorem State.takeInitiatorData_of_unmatched (h4 : 4 ≤ f.length) (h : u.matchInitiator f = none) :
    u.takeInitiatorData f = (u.discard f).postStaleInitiator f .noExchange := by
  unfold State.takeInitiatorData
  rw [isShort_eq_false h4, h]
  rfl

end

/-! ## The statements -/

/-- Settles O15: each command takes its frame, finds it of no use before any match, and discards it with the alert of its rule. -/
theorem unmatchedFramesAreDiscarded : Obligations.UnmatchedFramesAreDiscarded := by
  refine ⟨fun s u p f hp h => ?_, fun s u p f k h hi ht => ?_, fun s u p f c hp h4 h => ?_⟩
  · refine ⟨_, exec_unknownKindDiscard hp h, ?_⟩
    have hd : sorterDetail f = if f = [] then .shortFrame else .unknownKind := by cases f <;> rfl
    rw [← State.takeNext_clock h, ← hd]
    exact u.discard_post f _
  · obtain ⟨hp, h, h4⟩ := h
    have hk : wrongKind p k = true := by
      cases p with
      | i => obtain rfl | rfl | rfl | rfl := hi rfl <;> rfl
      | t0 | t1 => obtain rfl | rfl | rfl := ht nofun <;> rfl
    refine ⟨_, exec_wrongLinkFrame hp h hk, ?_⟩
    unfold State.postWrongLink
    rw [isShort_eq_false h4, ← State.takeKind_clock h, ← (State.takeKind_some h).1]
    exact u.discard_post f _
  · have hdrop : u.clock = s.clock → ∀ v, v = (u.discard f).postStaleLink p .shortFrame →
        u.onlyDiscards v f ∧ u.posted v { cause := .staleFrame .shortFrame, time := s.clock, link := some p } := by
      rintro hclock v rfl
      rw [← hclock]
      exact u.discard_post f _
    obtain ⟨t, k, rfl, hc, h⟩ | ⟨rfl, ⟨rfl, h⟩ | ⟨rfl, h⟩ | ⟨rfl, h⟩⟩ := h
    · obtain ⟨rule, hexec, -⟩ := exec_targetFrame hc hp h
      exact ⟨_, hexec, hdrop (State.takeKind_clock h) _ (State.takeTargetFrame_of_short t h4)⟩
    · exact ⟨_, exec_initiatorData hp h, hdrop (State.takeKind_clock h) _ (by simp [State.takeInitiatorData, isShort_eq_true h4])⟩
    · exact ⟨_, exec_initiatorAbort hp h, hdrop (State.takeKind_clock h) _ (by simp [State.takeAbort, isShort_eq_true h4])⟩
    · exact ⟨_, exec_verdict hp h, hdrop (State.takeNext_clock h) _ (by simp [State.takeRequest, isShort_eq_true h4])⟩

/-- A stale ABORT_DONE is dropped without an alert, every other stale frame of a target with the one of R16. -/
theorem State.dropped_staleTarget (u : State) (t : Target) (f : List Byte) (d : StaleDetail) (r : Option EntryRef)
    (quiet : Prop) [Decidable quiet] :
    let v := if quiet then u.discard f else (u.discard f).postStaleTarget t f d r
    u.onlyDiscards v f
      ∧ if quiet then u.sameAlerts v
        else u.posted v { cause := .staleFrame d, time := u.clock, link := some (targetPort t), tag := some (frameTag f), entry := r } := by
  by_cases h : quiet
  · simp only [h, if_true]; exact ⟨u.discard_onlyDiscards f, rfl, rfl⟩
  · simp only [h, if_false]; exact u.discard_post f _

/-- Settles O26: a frame that matches nothing, or an entry that takes no such frame, is discarded; the alert is that of its rule. -/
theorem staleFramesAreDropped : Obligations.StaleFramesAreDropped := by
  refine ⟨fun s u t f k c hc ⟨hp, h, h4⟩ => ?_, fun s u f ⟨hp, h, h4⟩ => ?_⟩
  · obtain ⟨rule, hexec, hparked, hnoAbort⟩ := exec_targetFrame hc hp h
    have hkind := (State.takeKind_some h).1
    rw [← State.takeKind_clock h]
    refine ⟨fun d r hm => ⟨_, hexec, ?_⟩, fun i x g hm hx => ⟨_, hexec, ?_⟩, fun i x g hk ⟨hm, hs, hx⟩ => ⟨_, hexec, ?_⟩⟩
    · rw [State.takeTargetFrame_of_stale h4 hm, hkind]
      exact u.dropped_staleTarget t f d r _
    · rw [State.takeTargetFrame_of_matched h4 hm, hparked i x g hx]
      exact u.dropped_staleTarget t f .afterStatus (some (u.refOf i)) _
    · have ha : x.state ≠ .aborting := by obtain hs | hs := hs <;> simp [hs]
      rw [State.takeTargetFrame_of_matched h4 hm, hnoAbort i x g hk hx ha]
      exact u.discard_post f _
  · rw [← State.takeKind_clock h]
    refine ⟨fun i x hm hs hx => ⟨_, exec_initiatorData hp h, ?_⟩, fun i x hm hs hx => ⟨_, exec_initiatorData hp h, ?_⟩,
      fun hm => ⟨_, exec_initiatorData hp h, ?_⟩⟩
    · rw [State.takeInitiatorData_of_matched h4 hm, State.initiatorDataRule, hx, hs]
      exact u.discard_post f _
    · rw [State.takeInitiatorData_of_matched h4 hm, State.initiatorDataRule, hx, hs]
      exact ⟨u.discard_onlyDiscards f, rfl, rfl⟩
    · rw [State.takeInitiatorData_of_unmatched h4 hm]
      exact u.discard_post f _

end Sys2Proof.Machine
end

section
/-! Transmission of the head of an egress queue (R13, R74, R75, R118, R121 to R123). -/

namespace Sys2Proof.Machine

/-! ## When the head is sent -/

/-- Without peer credit, on a port that is not UP, or with nothing queued there is no transmission (R118, R122). -/
theorem transmissionEvent_eq_none {s : State} {p : Port} (h : (s.port p).peerCredit = 0 ∨ (s.port p).state ≠ .up ∨ (s.port p).egress = []) :
    transmissionEvent p s = none := by
  unfold transmissionEvent
  split
  · rfl
  · next d rest hq =>
    refine if_neg fun ⟨hup, hcredit, _⟩ => ?_
    obtain h | h | h := h
    · omega
    · exact h ((s.isUp_iff p).1 hup)
    · rw [hq] at h; cases h

/-- A port in UP with peer credit sends a head that passes its check. -/
theorem exec_transmission {s : State} {p : Port} {d : Descriptor} {rest : List Descriptor} (hp : s.resetPin = false)
    (hup : (s.port p).state = .up) (hcredit : 1 ≤ (s.port p).peerCredit) (hq : (s.port p).egress = d :: rest) (hd : s.passesHead p d = true) :
    exec (.transmission p) s = .next (s.sendHead p d rest).settle :=
  event_occurs (f := transmissionEvent p) hp (by simp [transmissionEvent, hq, (s.isUp_iff p).2 hup, hd, Nat.lt_of_lt_of_le Nat.zero_lt_one hcredit])

theorem State.exchangeAt_of_entry {s : State} {r : EntryRef} {x : Exchange} (h : s.entry r.index = { inc := r.inc, exchange := some x }) :
    s.exchangeAt r = some x := by simp [State.exchangeAt, h]

theorem State.exchangeAt_congr {s t : State} (h : t.entries = s.entries) (r : EntryRef) : t.exchangeAt r = s.exchangeAt r := by
  simp only [State.exchangeAt, State.entry_congr h]

theorem State.passesHead_of_no_entry {s : State} {p : Port} {d : Descriptor} (h : d.entry = none) : s.passesHead p d = true := by
  simp [State.passesHead, h]

/-- A target port sends what was queued for an entry that is in use at the recorded incarnation, whatever its state (R75). -/
theorem State.passesHead_of_recorded {s : State} {p : Port} {d : Descriptor} {r : EntryRef} {x : Exchange} (hp : p ≠ .i) (hd : d.entry = some r)
    (hx : s.entry r.index = { inc := r.inc, exchange := some x }) : s.passesHead p d = true := by
  cases p with
  | i => exact absurd rfl hp
  | t0 | t1 => simp [State.passesHead, hd, State.exchangeAt_of_entry hx]

/-- Port I checks DATA alone (R74). -/
theorem State.passesHead_of_not_data {s : State} {d : Descriptor} (h : d.isData = false) : s.passesHead .i d = true := by
  unfold State.passesHead
  split
  · rfl
  · simp [h]

/-- Port I sends the DATA of an exchange that has not closed (R74). -/
theorem State.passesHead_of_open {s : State} {d : Descriptor}
    (h : ∀ r, d.entry = some r → ∃ x, s.exchangeAt r = some x ∧ x.closed = false) : s.passesHead .i d = true := by
  unfold State.passesHead
  split
  · rfl
  · next r hr =>
    obtain ⟨x, hx, hc⟩ := h r hr
    simp [hx, hc]

/-! ## What is sent -/

/-- The state once the head has gone out: one credit less, the frame on the wire, `queue` in the head's place. -/
def State.afterSending (s : State) (p : Port) (f : Frame) (queue : List Descriptor) : State :=
  s.setPort p { s.port p with
    egress := queue, peerCredit := (s.port p).peerCredit - 1, wire := (s.port p).wire ++ [f.encode] }

/-- A piece that is not the last: the head stays with its progress (R123). -/
theorem State.sendHead_of_piece {s : State} {p : Port} {d : Descriptor} {n : Nat} (rest : List Descriptor)
    (h : d.progressAfter (s.segment p) = some n) :
    s.sendHead p d rest = s.afterSending p (s.frameToSend d (s.segment p)) ({ d with progress := n } :: rest) := by
  simp only [State.sendHead, h]
  rfl

/-- The last piece: the head leaves, its cells are freed, and what completes it follows. -/
theorem State.sendHead_of_last {s : State} {p : Port} {d : Descriptor} (rest : List Descriptor) (h : d.progressAfter (s.segment p) = none) :
    s.sendHead p d rest = ((s.afterSending p (s.frameToSend d (s.segment p)) rest).release d.cells).completed p d := by
  simp only [State.sendHead, h]
  rfl

theorem State.afterSending_release (s : State) (p : Port) (f : Frame) (queue : List Descriptor) (n : Nat) :
    (s.afterSending p f queue).release n = { s.afterSending p f queue with freeCells := s.freeCells + n } := by
  simp [State.release, State.afterSending]

@[simp] theorem State.afterSending_entry (s : State) (p : Port) (f : Frame) (queue : List Descriptor) (i : EntryIndex) :
    (s.afterSending p f queue).entry i = s.entry i := State.setPort_entry ..

@[simp] theorem State.afterSending_entries (s : State) (p : Port) (f : Frame) (queue : List Descriptor) :
    (s.afterSending p f queue).entries = s.entries := State.setPort_entries ..

/-- Only forwarded DATA is cut into pieces (R123). -/
theorem Descriptor.progressAfter_of_not_data {d : Descriptor} (h : d.isData = false) (m : Nat) : d.progressAfter m = none := by
  have hsplit : d.splitPayload = none := by
    unfold Descriptor.splitPayload
    split
    · next hc => simp [Descriptor.isData, hc] at h
    · rfl
  simp [Descriptor.progressAfter, hsplit]

theorem State.frameToSend_of_made {d : Descriptor} {f : Frame} (s : State) (h : d.content = .made f) (m : Nat) : s.frameToSend d m = f := by
  simp [State.frameToSend, h]

/-- A stored frame other than DATA goes out as it was rewritten. -/
theorem State.frameToSend_of_stored {d : Descriptor} {f : Frame} {n : Nat} (s : State) (h : d.content = .stored f n) (hd : d.isData = false)
    (m : Nat) : s.frameToSend d m = f := by
  obtain ⟨initiator, tag, body⟩ := f
  unfold State.frameToSend
  unfold Descriptor.isData at hd
  rw [h] at hd ⊢
  cases body with
  | data => cases hd
  | _ => rfl

theorem State.frameToSend_of_data {d : Descriptor} {a : InitiatorId} {tag : Tag} {off n : Nat} {payload : List Byte} (s : State)
    (h : d.content = .stored (dataFrame a tag off payload) n) (m : Nat) :
    s.frameToSend d m = dataFrame a tag (off + d.progress) ((payload.drop d.progress).take m) := by
  simp [State.frameToSend, h, dataFrame]

theorem Descriptor.progressAfter_of_data {d : Descriptor} {a : InitiatorId} {tag : Tag} {off n : Nat} {payload : List Byte}
    (h : d.content = .stored (dataFrame a tag off payload) n) (m : Nat) :
    d.progressAfter m = if d.progress + m < payload.length then some (d.progress + m) else none := by
  simp [Descriptor.progressAfter, Descriptor.splitPayload, h, dataFrame]

/-! ## What completes a descriptor -/

/-- Neither a REQUEST nor the ALERT nor the marked STATUS: only DATA that has left port I brings something about. -/
theorem State.completed_of_plain {d : Descriptor} (s : State) (p : Port) (hr : d.isRequest = false) (ha : d.isAlert = false)
    (hw : d.warmMark = false) : s.completed p d = if p = .i ∧ d.isData = true then s.dataSent d else s := by
  simp only [State.completed, hr, ha, hw, Bool.false_eq_true, if_false]
  cases d.entry <;> rfl

theorem State.completed_of_request {d : Descriptor} {r : EntryRef} (s : State) (p : Port) (hr : d.isRequest = true) (hd : d.isData = false)
    (ha : d.isAlert = false) (hw : d.warmMark = false) (he : d.entry = some r) : s.completed p d = s.markSent r := by
  simp [State.completed, hr, hd, ha, hw, he]

/-- A REQUEST is neither DATA nor the ALERT. -/
theorem Descriptor.isRequest_stored {d : Descriptor} (h : d.isRequest = true) : d.isData = false ∧ d.isAlert = false := by
  unfold Descriptor.isRequest at h
  split at h
  · next hc => simp [Descriptor.isData, Descriptor.isAlert, hc]
  · cases h

/-- DATA waiting falls by one, and nothing follows while other DATA waits or when the exchange has no closing frame to come. -/
theorem State.dataGone_of_quiet {s : State} {i : EntryIndex} {x : Exchange}
    (h : 2 ≤ x.dataWaiting ∨ x.parked = none ∧ x.snapshot = none ∧ x.answer = none) :
    s.dataGone i x = s.setExchange i { x with dataWaiting := x.dataWaiting - 1 } := by
  simp only [State.dataGone]
  split
  · obtain h | ⟨hk, hn, ha⟩ := h
    · omega
    · simp [State.dataLeft, hk, hn, ha]
  · rfl

theorem State.dataSent_of_stored {s : State} {d : Descriptor} {r : EntryRef} {x : Exchange} {f : Frame} {n : Nat} (hc : d.content = .stored f n)
    (he : d.entry = some r) (hx : s.exchangeAt r = some x) : s.dataSent d = s.dataGone r.index x := by
  simp [State.dataSent, he, hx, hc]

/-! ## The statements -/

/-- The head is sent by a port in UP with peer credit when it records no entry, or one in use at its incarnation, or is not DATA of port I. -/
theorem State.passesHead_of {s : State} {p : Port} {d : Descriptor} (hd : p = .i → d.isData = false)
    (h : p = .i ∨ d.entry = none ∨ ∃ r x, d.entry = some r ∧ s.entry r.index = { inc := r.inc, exchange := some x }) :
    s.passesHead p d = true := by
  by_cases hp : p = .i
  · subst hp; exact State.passesHead_of_not_data (hd rfl)
  · obtain h | h | ⟨r, x, hr, hx⟩ := h
    · exact absurd h hp
    · exact State.passesHead_of_no_entry h
    · exact State.passesHead_of_recorded hp hr hx

/-- A head that is neither DATA nor a REQUEST nor marked goes out whole, and nothing follows but the return of its cells (R121, R122). -/
theorem State.sendHead_of_whole {s : State} {p : Port} {d : Descriptor} {rest : List Descriptor} {f : Frame} (hd : d.isData = false)
    (hr : d.isRequest = false) (ha : d.isAlert = false) (hw : d.warmMark = false) (hf : s.frameToSend d (s.segment p) = f) :
    s.sendHead p d rest = (s.afterSending p f rest).release d.cells := by
  rw [State.sendHead_of_last rest (Descriptor.progressAfter_of_not_data hd _), State.completed_of_plain _ p hr ha hw, hf]
  simp [hd]

/-- Settles O39: each head passes its check and is sent to its last piece or not; only DATA of port I brings more about. -/
theorem transmissionCarriesHead : Obligations.TransmissionCarriesHead := by
  refine ⟨fun s p h => event_absent (transmissionEvent_eq_none h), fun s p d rest m hp hup hcredit hm hq hw => ?_⟩
  have hseg : s.segment p = m := by simp [State.segment, hm]
  dsimp only
  refine ⟨fun f hc hrec => ?_, fun f n hc hr hd hrec => ?_, fun a tag off payload n hc => ?_⟩
  · have hd : d.isData = false := by simp [Descriptor.isData, hc]
    rw [exec_transmission hp hup hcredit hq (State.passesHead_of (fun _ => hd) hrec),
      State.sendHead_of_whole hd (by simp [Descriptor.isRequest, hc]) (by simp [Descriptor.isAlert, hc]) hw (s.frameToSend_of_made hc _),
      show d.cells = 0 by simp [Descriptor.cells, hc]]
    rfl
  · rw [exec_transmission hp hup hcredit hq (State.passesHead_of (fun _ => hd) hrec),
      State.sendHead_of_whole hd hr (by simp [Descriptor.isAlert, hc]) hw (s.frameToSend_of_stored hc hd _), State.afterSending_release]
    simp [Descriptor.cells, hc, State.afterSending]
  · have hdata : d.isData = true := by simp [Descriptor.isData, hc, dataFrame]
    have hcells : d.cells = n := by simp [Descriptor.cells, hc]
    have hlast : payload.length ≤ d.progress + m → s.sendHead p d rest
        = let u := (s.afterSending p (dataFrame a tag (off + d.progress) ((payload.drop d.progress).take m)) rest).release n
          if p = .i then u.dataSent d else u := by
      intro hlen
      rw [State.sendHead_of_last rest (by rw [Descriptor.progressAfter_of_data hc, hseg, if_neg (by omega)]), State.frameToSend_of_data s hc,
        State.completed_of_plain _ p (by simp [Descriptor.isRequest, hc, dataFrame]) (by simp [Descriptor.isAlert, hc]) hw, hseg, hcells]
      simp [hdata]
    have hpasses : (p ≠ .i → d.entry = none ∨ ∃ r x, d.entry = some r ∧ s.entry r.index = { inc := r.inc, exchange := some x }) →
        p ≠ .i → s.passesHead p d = true := fun hrec hne => State.passesHead_of (fun he => absurd he hne) (.inr (hrec hne))
    refine ⟨fun hlen hopen hrec => ?_, fun hlen => ⟨fun hne hrec => ?_, ?_⟩⟩
    · have hpass : s.passesHead p d = true := by
        by_cases hi : p = .i
        · subst hi; exact State.passesHead_of_open (hopen rfl)
        · exact hpasses hrec hi
      rw [exec_transmission hp hup hcredit hq hpass,
        State.sendHead_of_piece rest (by rw [Descriptor.progressAfter_of_data hc, hseg, if_pos hlen]), State.frameToSend_of_data s hc, hseg]
      rfl
    · rw [exec_transmission hp hup hcredit hq (hpasses (fun _ => hrec) hne), hlast hlen]
      simp only [hne, if_false, State.afterSending_release]
      rfl
    · rintro rfl r x hr hx hopen hquiet
      have hat : s.exchangeAt r = some x := State.exchangeAt_of_entry hx
      have hpass : s.passesHead .i d = true := State.passesHead_of_open fun r' hr' => by
        rw [hr, Option.some.injEq] at hr'; exact ⟨x, hr' ▸ hat, hopen⟩
      rw [exec_transmission hp hup hcredit hq hpass, hlast hlen]
      simp only [if_true]
      rw [State.dataSent_of_stored hc hr ((State.exchangeAt_congr (by simp) r).trans hat), State.dataGone_of_quiet hquiet]
      rfl

/-- Settles O41: the REQUEST goes out whole, and its completion marks its entry, which it still names. -/
theorem requestTransmissionSetsSent : Obligations.RequestTransmissionSetsSent := by
  intro s t d rest f n r x g p hp hup hcredit hq hc hr hw he hx hg hstored
  have hne : p ≠ .i := by simp only [p]; cases t <;> decide
  obtain ⟨hd, ha⟩ := Descriptor.isRequest_stored hr
  let u := (s.afterSending p f rest).release n
  let y : Exchange := { x with storedRequest := none, routing := some { g with commandSent := true } }
  have hv : s.sendHead p d rest = u.setExchange r.index y := by
    have hat : u.exchangeAt r = some x := (State.exchangeAt_congr (by simp [u]) r).trans (State.exchangeAt_of_entry hx)
    rw [State.sendHead_of_last rest (Descriptor.progressAfter_of_not_data hd _), State.frameToSend_of_stored s hc hd,
      State.completed_of_request _ p hr hd ha hw he, show d.cells = n by simp [Descriptor.cells, hc]]
    show u.markSent r = _
    simp only [State.markSent, hat, hg, hstored, if_true]
    rfl
  refine ⟨_, exec_transmission hp hup hcredit hq (State.passesHead_of_recorded hne he hx), ?_⟩
  rw [hv]
  refine ⟨?_, fun j hj => ?_, ?_, ?_, ?_, ?_, ?_, fun q hq => ?_⟩
  · rw [State.setExchange_entry_self]; simp [u, hx, y]
  · rw [State.setExchange_entry_ne _ _ hj]; simp [u]
  · constructor <;> simp [u, State.afterSending]
  · refine ⟨?_, ?_, ⟨?_, ?_, ?_, ?_, ?_, ?_⟩, ?_, ?_, ?_, ?_, ?_, ?_, ?_⟩ <;> simp [u, State.afterSending]
  · constructor <;> simp [u, State.afterSending]
  · simp [u, State.afterSending]
  · simp [u, State.afterSending]
  · simp [u, State.afterSending, State.setPort_port_ne _ _ hq]

end Sys2Proof.Machine
end

section
/-! The tables that the checks read decide as the rules give them (R20, R23, R30, R34, R35, R37, R41, R42, R49, R139, R141, R152, R164). -/

namespace Sys2Proof.Machine

/-! ## Banks, bootstrap, rights (R20, R23, R27 to R29, R41, R42, R49) -/

theorem State.banks_eq (s : State) :
    s.activeBank = (if s.active = .a then s.bankA else s.bankB) ∧ s.stagingBank = (if s.active = .a then s.bankB else s.bankA) := by
  unfold State.activeBank State.stagingBank
  cases s.active <;> exact ⟨rfl, rfl⟩

theorem Bank.noInitiator_iff (b : Bank) : b.noInitiator = true ↔ ∀ m, b.initiators.get m = none := by
  simp [Bank.noInitiator]

theorem State.hasDataRight_iff (s : State) (n : InitiatorId) :
    s.hasDataRight n = true ↔ ∃ r, s.activeBank.initiators.get n = some r ∧ r.dataRight = true := Option.any_eq_true _ _

theorem State.hasMgmtRight_iff (s : State) (n : InitiatorId) :
    s.hasMgmtRight n = true ↔ ∃ r, s.activeBank.initiators.get n = some r ∧ r.mgmtRight = true := Option.any_eq_true _ _

theorem State.quotaOf_of_bootstrap {s : State} (h : s.bootstrap = true) (n : InitiatorId) : s.quotaOf n = 2 := by
  unfold State.quotaOf
  rw [h]
  rfl

theorem State.quotaOf_of_record {s : State} {n : InitiatorId} {r : InitiatorRecord} (h : s.bootstrap = false)
    (hr : s.activeBank.initiators.get n = some r) : s.quotaOf n = r.quota := by
  unfold State.quotaOf State.initiatorRecord
  rw [h, hr]
  rfl

/-- Counting along the entry indexes is the size of the set of the entries counted. -/
theorem State.inUseCount_eq_card (s : State) (n : InitiatorId) :
    s.inUseCount n = (Finset.univ.filter fun i : EntryIndex => ((s.entry i).exchange.any fun x => x.initiator == n) = true).card := by
  unfold State.inUseCount allEntries
  rw [List.countP_eq_length_filter, Finset.card_def, Finset.filter_val, Fin.univ_def]
  simp

/-! ## Classes and views (R30, R34 to R37) -/

theorem OpClass.permits_cases (d : Direction) :
    OpClass.permits .undefined d = false ∧ OpClass.permits .forbidden d = false ∧ OpClass.permits .control d = true
      ∧ (OpClass.permits .readBlocks d = true ↔ d = .dirIn) ∧ (OpClass.permits .writeBlocks d = true ↔ d = .dirOut)
      ∧ (OpClass.permits .query d = true ↔ d = .dirIn ∨ d = .noData) := by
  cases d <;> decide

theorem View.holds_iff (v : View) (c : OpClass) : v.holds c = true ↔ v.holdMode = .holdAll ∨ v.holdMode = .holdWrites ∧ c = .writeBlocks := by
  unfold View.holds
  cases v.holdMode <;> simp

theorem View.link_of_code {v : View} : (v.linkCode = 0x00#8 → v.link = .t0) ∧ (v.linkCode = 0x01#8 → v.link = .t1) := by
  unfold View.link linkOfCode
  exact ⟨fun h => if_pos h, fun h => if_neg (by rw [h]; decide)⟩

theorem View.blockSize_of_code {v : View} : (v.blockSizeCode = 0x00#8 → v.blockSize = 512) ∧ (v.blockSizeCode = 0x01#8 → v.blockSize = 4096) := by
  unfold View.blockSize
  exact ⟨fun h => if_pos h, fun h => if_neg (by rw [h]; decide)⟩

/-! ## Management operations (R139, R141, R164) -/

/-- Operation codes and operations (R164). -/
def opCodes : List (Byte × MgmtOp) :=
  [(0x01#8, .identify), (0x02#8, .claim), (0x03#8, .renew), (0x04#8, .releaseLease), (0x05#8, .readEntry), (0x06#8, .writeEntry),
   (0x07#8, .clearStaging), (0x08#8, .commit), (0x09#8, .readExchange), (0x0A#8, .holdList), (0x0B#8, .holdDecide),
   (0x0C#8, .alertAck), (0x0D#8, .endExchange), (0x0E#8, .linkState), (0x0F#8, .warmReset)]

/-- A code above 0Fh, and 00h, names no operation. -/
theorem mgmtOpOf_eq_some_iff {b : Byte} {op : MgmtOp} : mgmtOpOf b = some op ↔ (b, op) ∈ opCodes := by
  constructor
  · intro h
    have hb : b = BitVec.ofNat 8 b.toNat := by simp
    unfold mgmtOpOf at h
    rw [hb]
    split at h
    case h_16 => cases h
    all_goals next hn => cases h; rw [hn]; decide
  · intro h
    fin_cases h <;> rfl

theorem MgmtOp.leaseClass_eq_false_iff (op : MgmtOp) :
    op.leaseClass = false ↔ op ∈ [MgmtOp.identify, .claim, .readEntry, .readExchange, .holdList, .linkState] := by
  cases op <;> decide

theorem Exchange.namedOp_eq_some_iff {x : Exchange} {op : MgmtOp} :
    x.namedOp = some op ↔ (requestParams x.requestBytes).length = 4 ∧ mgmtOpOf (byteAt (requestParams x.requestBytes) 0) = some op
      ∧ op.argsOk (requestParams x.requestBytes) = true ∧ op.bodyOk x.direction x.length = true := by
  simp only [Exchange.namedOp]
  split
  · next h => simp [h, Option.filter_eq_some_iff]
  · next h => simp [h]

/-- A body belongs to WRITE_ENTRY alone, where the transfer length is not 0. -/
theorem MgmtOp.bodyOk_iff {op : MgmtOp} {d : Direction} {n : Nat} (h : 1 ≤ n) : op.bodyOk d n = true ↔ (d = .dirOut ↔ op = .writeEntry) := by
  unfold MgmtOp.bodyOk
  have hpos : 0 < n := h
  by_cases ho : op = .writeEntry <;> by_cases hd : d = .dirOut <;> simp [ho, hd, hpos]

/-! ## Tables and validation (R23, R152) -/

theorem tableOf_eq_some_iff {b : Byte} {t : Table} :
    tableOf b = some t ↔ (b, t) ∈ [(0x01#8, Table.initiators), (0x02#8, .views), (0x03#8, .classes), (0x04#8, .replies)] := by
  constructor
  · intro h
    unfold tableOf at h
    split at h
    · next hb => cases h; rw [hb]; decide
    · split at h
      · next hb => cases h; rw [hb]; decide
      · split at h
        · next hb => cases h; rw [hb]; decide
        · split at h
          · next hb => cases h; rw [hb]; decide
          · cases h
  · intro h
    fin_cases h <;> rfl

/-- A code byte above 1 is neither 00h nor 01h. -/
theorem one_lt_toNat_iff (b : Byte) : 1 < b.toNat ↔ b ≠ 0x00#8 ∧ b ≠ 0x01#8 := by
  constructor
  · intro h; exact ⟨fun e => by simp [e] at h, fun e => by simp [e] at h⟩
  · rintro ⟨h0, h1⟩; bv_omega

/-- A view that validation refuses (R152, order 1). -/
def Bank.BadView (b : Bank) (k : ViewIndex) : Prop :=
  ∃ v, b.views.get k = some v ∧ (v.mask = 0#16 ∨ v.linkCode ≠ 0x00#8 ∧ v.linkCode ≠ 0x01#8
    ∨ v.blockSizeCode ≠ 0x00#8 ∧ v.blockSizeCode ≠ 0x01#8 ∨ 2 ^ 40 < v.base.toNat + v.extent)

theorem Bank.badView_iff (b : Bank) (k : ViewIndex) : (b.views.get k).any View.commitFault = true ↔ b.BadView k := by
  simp [Option.any_eq_true, View.commitFault, Bank.BadView, one_lt_toNat_iff, or_assoc]

/-- A reply record that validation refuses (R152, order 2). -/
def Bank.BadReply (b : Bank) (k : ReplyIndex) : Prop :=
  ∃ r, b.replies.get k = some r ∧ (r.linkCode ≠ 0x00#8 ∧ r.linkCode ≠ 0x01#8 ∨ b.classes.get r.opcode.toFin ≠ .query)

theorem ReplyRecord.commitFault_iff (b : Bank) (r : ReplyRecord) :
    r.commitFault b = true ↔ r.linkCode ≠ 0x00#8 ∧ r.linkCode ≠ 0x01#8 ∨ b.classes.get r.opcode.toFin ≠ .query := by
  unfold ReplyRecord.commitFault
  rw [Bool.or_eq_true, decide_eq_true_iff, decide_eq_true_iff, one_lt_toNat_iff]
  rfl

theorem Bank.badReply_iff (b : Bank) (k : ReplyIndex) : (b.replies.get k).any (ReplyRecord.commitFault b) = true ↔ b.BadReply k := by
  simp only [Option.any_eq_true, ReplyRecord.commitFault_iff, Bank.BadReply]

theorem Bank.noManager_iff (b : Bank) :
    b.noManager = true ↔ (∃ n, b.initiators.get n ≠ none) ∧ ∀ n r, b.initiators.get n = some r → r.mgmtRight = false := by
  have hright : ∀ n, (!(b.initiators.get n).any InitiatorRecord.mgmtRight) = true
      ↔ ∀ r, b.initiators.get n = some r → r.mgmtRight = false := fun n => by
    rw [Bool.not_eq_true', Option.any_eq_false]
  unfold Bank.noManager
  rw [Bool.and_eq_true, Bool.not_eq_true', ← Bool.not_eq_true, Bank.noInitiator_iff, List.all_eq_true, not_forall]
  simp only [List.mem_finRange, true_imp_iff, hright, ne_eq]

/-- The first index of a table where a fault is found. -/
theorem find?_finRange_first {n : Nat} {p : Fin n → Bool} {Bad : Fin n → Prop} (hp : ∀ k, p k = true ↔ Bad k) {k : Fin n} (hk : Bad k)
    (hlow : ∀ j, j < k → ¬Bad j) : (List.finRange n).find? p = some k :=
  find?_finRange ((hp k).2 hk) fun j hj => Bool.eq_false_iff.2 fun h => hlow j hj ((hp j).1 h)

theorem find?_finRange_none {n : Nat} {p : Fin n → Bool} {Bad : Fin n → Prop} (hp : ∀ k, p k = true ↔ Bad k) (hall : ∀ k, ¬Bad k) :
    (List.finRange n).find? p = none :=
  List.find?_eq_none.2 fun k _ h => hall k ((hp k).1 h)

/-- The order of R152: views, reply records, managers. -/
theorem Bank.firstFault_cases (b : Bank) :
    (∀ k, b.BadView k → (∀ j, j < k → ¬b.BadView j) → b.firstFault = some (.views, k.val))
    ∧ ((∀ k, ¬b.BadView k) →
        (∀ k, b.BadReply k → (∀ j, j < k → ¬b.BadReply j) → b.firstFault = some (.replies, k.val))
        ∧ ((∀ k, ¬b.BadReply k) → b.firstFault = if b.noManager then some (.initiators, 0xFFFF) else none)) := by
  refine ⟨fun k hk hlow => ?_, fun hviews => ⟨fun k hk hlow => ?_, fun hreplies => ?_⟩⟩
  · have hv : b.faultyView = some k := find?_finRange_first b.badView_iff hk hlow
    rw [Bank.firstFault, hv]
  · have hv : b.faultyView = none := find?_finRange_none b.badView_iff hviews
    have hr : b.faultyReply = some k := find?_finRange_first b.badReply_iff hk hlow
    rw [Bank.firstFault, hv, hr]
  · have hv : b.faultyView = none := find?_finRange_none b.badView_iff hviews
    have hr : b.faultyReply = none := find?_finRange_none b.badReply_iff hreplies
    rw [Bank.firstFault, hv, hr]

/-! ## The statement -/

/-- Settles O16, table by table. -/
theorem tablesDecideAsGiven : Obligations.TablesDecideAsGiven := by
  refine ⟨State.banks_eq, fun s n => ?_, OpClass.permits_cases, fun v => ?_, fun b op => mgmtOpOf_eq_some_iff, MgmtOp.leaseClass_eq_false_iff,
    fun x op => ⟨Exchange.namedOp_eq_some_iff, ?_, MgmtOp.bodyOk_iff⟩, fun b t => ⟨tableOf_eq_some_iff, by cases t <;> decide⟩, fun b => ?_⟩
  · exact ⟨s.activeBank.noInitiator_iff, fun h => State.quotaOf_of_bootstrap h n, fun r h hr => State.quotaOf_of_record h hr,
      s.hasDataRight_iff n, s.hasMgmtRight_iff n, s.inUseCount_eq_card n⟩
  · exact ⟨rfl, rfl, rfl, rfl, v.holds_iff, View.link_of_code.1, View.link_of_code.2, View.blockSize_of_code.1, View.blockSize_of_code.2⟩
  · cases op <;> simp [MgmtOp.argsOk, bytesZero]
  · obtain ⟨hview, hrest⟩ := b.firstFault_cases
    refine ⟨hview, fun hviews => ⟨(hrest hviews).1, fun hreplies => ?_⟩⟩
    rw [(hrest hviews).2 hreplies]
    exact ⟨fun h => if_pos (b.noManager_iff.2 h), fun h => if_neg fun hm => h (b.noManager_iff.1 hm)⟩

end Sys2Proof.Machine
end

section
/-! A management body: granted whole, or refused at the verdict, and taken frame by frame (R50, R136, R137, R139, R164). -/

namespace Sys2Proof.Machine

/-! ## The verdict that opens a management exchange (R50, R136) -/

theorem State.takeRequest_of_judge {u : State} {f : List Byte} {v : Verdict} (h4 : 4 ≤ f.length) (h : u.judge f = v) :
    u.takeRequest f = u.giveVerdict f v := by
  unfold State.takeRequest
  rw [isShort_eq_false h4, h]
  rfl

/-- A body of at most 300 bytes is granted whole. -/
theorem State.admitManagement_of_body {u : State} {f : List Byte} (i : EntryIndex) (hd : (readRequest f).direction = .dirOut)
    (h1 : 1 ≤ (readRequest f).length) (h300 : (readRequest f).length ≤ 300) :
    u.admitManagement i f =
      let opened := u.allocate i (u.awaitingBody (managementExchange f))
      opened.enqueue .i (opened.ofEntry i (.made (bodyProceed (managementExchange f)))) := by
  unfold State.admitManagement
  have hmax : (managementExchange f).length ≤ Config.bodyMax := h300
  rw [if_pos ⟨hd, h1⟩, if_pos hmax]

/-- A longer body is not taken: the exchange concludes at once with E8h. -/
theorem State.admitManagement_of_longBody {u : State} {f : List Byte} (i : EntryIndex) (hd : (readRequest f).direction = .dirOut)
    (h300 : 300 < (readRequest f).length) :
    u.admitManagement i f = State.conclude i (managementExchange f) { state := u.opened f i, answer := [], code := 0xE8#8 } := by
  unfold State.admitManagement
  have hpos : 0 < (managementExchange f).length := Nat.lt_trans (by decide) h300
  have hmax : ¬(managementExchange f).length ≤ Config.bodyMax := Nat.not_le.2 h300
  rw [if_pos ⟨hd, hpos⟩, if_neg hmax]
  rfl

theorem State.allocate_entry_self (s : State) (i : EntryIndex) (x : Exchange) :
    (s.allocate i x).entry i = { inc := (s.entry i).inc + 1, exchange := some x } := State.setEntry_entry_self ..

theorem State.allocate_entry_ne (s : State) {i j : EntryIndex} (x : Exchange) (h : j ≠ i) : (s.allocate i x).entry j = s.entry j :=
  State.setEntry_entry_ne _ _ h

theorem State.allocate_port (s : State) (i : EntryIndex) (x : Exchange) (q : Port) : (s.allocate i x).port q = s.port q := State.setEntry_port ..

theorem State.allocate_sameCore (s : State) (i : EntryIndex) (x : Exchange) : s.sameCore (s.allocate i x) :=
  ⟨rfl, rfl, ⟨rfl, rfl, rfl, rfl, rfl, rfl⟩, rfl, rfl, rfl, rfl, rfl, rfl, rfl⟩

/-! ## A body frame (R137) -/

theorem State.initiatorDataRule_of_body {u : State} {i : EntryIndex} {x : Exchange} {f : List Byte} (hs : x.state = .mgmtBody)
    (hk : x.parked = none) (hv : bodyViolation x f = none) : u.initiatorDataRule i x f = u.acceptBody i x f := by
  unfold State.initiatorDataRule State.bodyRule
  rw [hk, hs, hv]
  rfl

theorem Exchange.withBodyFrame_of_last {x : Exchange} {f : List Byte} (h : x.moved + dataLength f = x.length) :
    x.withBodyFrame f =
      { x with moved := x.moved + dataLength f, bodyFrames := x.bodyFrames ++ [f], state := .mgmtAnswer, deadline := none } := by
  simp [Exchange.withBodyFrame, h]

theorem Exchange.withBodyFrame_of_more {x : Exchange} {f : List Byte} (h : x.moved + dataLength f ≠ x.length) :
    x.withBodyFrame f = { x with moved := x.moved + dataLength f, bodyFrames := x.bodyFrames ++ [f] } := by
  simp [Exchange.withBodyFrame, h]

/-- A management command, by the last body frame, is the body frame's own event when the parameter block names its operation (log entry 3). -/
theorem performanceEvent_lastBodyFrame {s u : State} {f : List Byte} {i : EntryIndex} {x : Exchange} {op : MgmtOp}
    (h : s.takeKind .i 0x03#8 = some (f, u)) (h4 : 4 ≤ f.length) (hm : u.matchInitiator f = some (i, x)) (hs : x.state = .mgmtBody)
    (hk : x.parked = none) (hv : bodyViolation x f = none) (hlast : x.moved + dataLength f = x.length)
    (hop : opNamedBy (requestParams x.requestBytes) = some op) : performanceEvent op .lastBodyFrame s = initiatorDataEvent s := by
  have hperf : s.bodyPerforms = some op := by
    simp [State.bodyPerforms, kindData, h, isShort_eq_false h4, hm, hk, hs, hv, hlast, hop]
  exact if_pos hperf

/-- The command of an operation is the event that performs it. -/
theorem exec_mgmtCommand {code : Byte} {op : MgmtOp} {c : PerformedAt → Instr} (h : (code, op, c) ∈ mgmtCommands) (w : PerformedAt) (s : State) :
    mgmtOpOf code = some op ∧ exec (c w) s = event (performanceEvent op w) s := by
  unfold mgmtCommands at h
  fin_cases h <;> exact ⟨rfl, rfl⟩

/-- No operation but WRITE_ENTRY is named where a body came (R139, R164). -/
theorem Exchange.namedOp_of_body {x : Exchange} {op : MgmtOp} (hop : opNamedBy (requestParams x.requestBytes) = some op) (hne : op ≠ .writeEntry)
    (hd : x.direction = .dirOut) (hl : 1 ≤ x.length) : x.namedOp = none := by
  refine Option.eq_none_iff_forall_ne_some.2 fun op' h => hne ?_
  obtain ⟨hlen, hop', -, hbody⟩ := Exchange.namedOp_eq_some_iff.1 h
  obtain ⟨b, bs, hq⟩ := List.exists_cons_of_length_pos (l := requestParams x.requestBytes) (by omega)
  rw [hq] at hop hop'
  have hsame : some op = some op' := hop.symm.trans hop'
  rw [Option.some.inj hsame]
  exact ((MgmtOp.bodyOk_iff hl).1 hbody).1 hd

/-- Settles O24: the verdict grants the body or refuses it; each frame joins the chain, and the last performs the operation. -/
theorem managementBodyIsGrantedAndTaken : Obligations.ManagementBodyIsGrantedAndTaken := by
  refine ⟨?_, ?_, ?_⟩
  · intro s u f i hp h h4 hj hd h1 h300 q r
    refine ⟨_, exec_verdict hp h, ?_⟩
    rw [State.takeRequest_of_judge h4 hj, State.giveVerdict, State.admitManagement_of_body i hd h1 h300]
    dsimp only
    refine ⟨?_, fun j hj => ?_, ?_, ?_, ?_, ?_, ?_⟩
    · rw [State.enqueue_entry, State.allocate_entry_self, ← State.takeNext_clock h, ← hd]
      simp only [managementExchange, openingExchange, State.awaitingBody, q]
      rfl
    · rw [State.enqueue_entry, State.allocate_entry_ne _ _ hj]
    · constructor
      · rw [State.enqueue_holdQueue]; rfl
      · rw [State.enqueue_startList]; rfl
    · exact (u.allocate_sameCore ..).trans (State.enqueue_sameCore ..)
    · constructor
      · rw [State.enqueue_alerts]; rfl
      · rw [State.enqueue_dropped]; rfl
    · exact State.enqueue_made_freeCells ..
    · obtain ⟨hself, hother⟩ := State.enqueue_queuedOn (u.allocate i (u.awaitingBody (managementExchange f))) .i
        { content := .made (bodyProceed (managementExchange f)), entry := some r }
      have href : (u.allocate i (u.awaitingBody (managementExchange f))).refOf i = r := by
        rw [State.refOf, State.allocate_entry_self]
      rw [State.ofEntry, href]
      exact ⟨hself.trans (by rw [State.allocate_port]; rfl), fun p hp => (hother p hp).trans (State.allocate_port ..)⟩
  · intro s u f i hp h h4 hj hd h300
    rw [exec_verdict hp h, State.takeRequest_of_judge h4 hj, State.giveVerdict, State.admitManagement_of_longBody i hd h300]
    rfl
  · intro s u f i x ⟨hp, h, h4⟩ hm hs hk hform hoff hwin y z v
    have hv : bodyViolation x f = none := bodyViolation_eq_none.2 ⟨hform, windowViolation_eq_none.2 ⟨hoff, hwin⟩⟩
    have hexec : exec .initiatorData s = .next (u.acceptBody i x f).settle := by
      rw [exec_initiatorData hp h, State.takeInitiatorData_of_matched h4 hm, State.initiatorDataRule_of_body hs hk hv]
    refine ⟨fun hmore => ?_, fun hlast => ⟨?_, fun code op c hc hcode => ?_⟩⟩
    · rw [hexec, State.acceptBody, if_neg hmore, Exchange.withBodyFrame_of_more hmore]
    · rw [hexec, State.acceptBody, if_pos hlast, Exchange.withBodyFrame_of_last hlast]
      rfl
    · obtain ⟨hop, hcommand⟩ := exec_mgmtCommand hc .lastBodyFrame s
      have hnamed : opNamedBy (requestParams x.requestBytes) = some op := by rw [opNamedBy, hcode]; exact hop
      refine ⟨?_, fun hne hd hl => ?_⟩
      · rw [hcommand, event, performanceEvent_lastBodyFrame h h4 hm hs hk hv hlast hnamed]
        rfl
      · have hz : z.namedOp = none := Exchange.namedOp_of_body (x := z) hnamed hne hd hl
        rw [operationResult, hz]
        rfl

end Sys2Proof.Machine
end

section
/-! The warm reset that the marked STATUS's transmission carries out (R147, R148): the purge of the queues, the entries one after the other, the
other blocks. -/

namespace Sys2Proof.Machine

/-! ## Descriptors that join a queue -/

theorem PortRecord.queued_nil (r : PortRecord) : r.queued [] = r := by
  unfold PortRecord.queued
  split
  · simp
  · rfl

theorem PortRecord.queued_append (r : PortRecord) (a b : List Descriptor) : (r.queued a).queued b = r.queued (a ++ b) := by
  unfold PortRecord.queued
  by_cases h : r.state = .up <;> simp [h]

/-! ## One entry (R147) -/

/-- The STATUS D6h that warm reset queues for an entry: none for a FREE one or one whose exchange has closed. -/
def State.resetClosing (s : State) (i : EntryIndex) : Option Descriptor :=
  match (s.entry i).exchange with
  | some x => if x.state = .aborting ∧ x.closed = true then none else some (bridgeStatus (s.refOf i) x 0xD6#8)
  | none => none

/-- The ABORT that warm reset queues toward a target for an entry: where the target may still act and has had no ABORT. -/
def State.resetAbort (s : State) (t : Target) (i : EntryIndex) : Option Descriptor :=
  match (s.entry i).exchange with
  | some x =>
    if x.state ≠ .aborting ∧ x.parked = none ∧ (x.routing.any fun g => g.link == t && g.commandSent) = true then
      some { bridgeAbort (s.refOf i) with entry := none }
    else none
  | none => none

/-- Both read their own entry alone. -/
theorem State.resetClosing_congr {s t : State} {i : EntryIndex} (h : t.entry i = s.entry i) : t.resetClosing i = s.resetClosing i := by
  unfold State.resetClosing State.refOf
  rw [h]

theorem State.resetAbort_congr {s t : State} {i : EntryIndex} (h : t.entry i = s.entry i) (k : Target) :
    t.resetAbort k i = s.resetAbort k i := by
  unfold State.resetAbort State.refOf
  rw [h]

/-- What the reset of the entries `l`, lowest first, makes of a state: they are FREE with their cells back, and their closing frames and ABORTs have
joined the queues. -/
structure State.EntriesReset (s t : State) (l : List EntryIndex) : Prop where
  entry : ∀ j, t.entry j = if j ∈ l then { s.entry j with exchange := none } else s.entry j
  portI : t.port .i = (s.port .i).queued (l.filterMap s.resetClosing)
  target : ∀ k, t.port (targetPort k) = (s.port (targetPort k)).queued (l.filterMap (s.resetAbort k))
  freeCells : t.freeCells = s.freeCells + (l.map fun i => (s.entry i).cells).sum
  core : s.sameCore t

theorem State.EntriesReset.nil (s : State) : s.EntriesReset s [] :=
  ⟨fun j => by simp, (PortRecord.queued_nil _).symm, fun k => (PortRecord.queued_nil _).symm, rfl, s.sameCore_refl⟩

/-- One entry, then others. -/
theorem State.EntriesReset.cons {s t u : State} {i : EntryIndex} {l : List EntryIndex} (hi : i ∉ l) (h : s.EntriesReset t [i])
    (k : t.EntriesReset u l) : s.EntriesReset u (i :: l) := by
  have hstands : ∀ j ∈ l, t.entry j = s.entry j := fun j hj => by
    have hji : j ≠ i := fun e => hi (e ▸ hj)
    rw [h.entry, if_neg (by simpa using hji)]
  have hclosing : l.filterMap t.resetClosing = l.filterMap s.resetClosing :=
    List.filterMap_congr fun j hj => State.resetClosing_congr (hstands j hj)
  have habort : ∀ q, l.filterMap (t.resetAbort q) = l.filterMap (s.resetAbort q) := fun q =>
    List.filterMap_congr fun j hj => State.resetAbort_congr (hstands j hj) q
  have hcells : (l.map fun j => (t.entry j).cells) = l.map fun j => (s.entry j).cells :=
    List.map_congr_left fun j hj => by rw [hstands j hj]
  refine ⟨fun j => ?_, ?_, fun q => ?_, ?_, h.core.trans k.core⟩
  · rw [k.entry, h.entry]
    by_cases hji : j = i <;> by_cases hjl : j ∈ l <;> simp [hji, hjl]
  · rw [k.portI, h.portI, hclosing, PortRecord.queued_append, ← List.filterMap_append, List.singleton_append]
  · rw [k.target, h.target, habort, PortRecord.queued_append, ← List.filterMap_append, List.singleton_append]
  · rw [k.freeCells, h.freeCells, hcells]
    simp [Nat.add_assoc]

/-- Freeing an entry after frames that hold no cells have been queued for it. -/
theorem State.EntriesReset.of_freeEntry {s t : State} {i : EntryIndex} (hentries : t.entries = s.entries)
    (hI : t.port .i = (s.port .i).queued (s.resetClosing i).toList)
    (hT : ∀ k, t.port (targetPort k) = (s.port (targetPort k)).queued (s.resetAbort k i).toList)
    (hcells : t.freeCells = s.freeCells) (hcore : s.sameCore t) : s.EntriesReset (t.freeEntry i) [i] := by
  have hentry := State.entry_congr hentries
  have hsingle : ∀ g : EntryIndex → Option Descriptor, [i].filterMap g = (g i).toList := fun g => by cases h : g i <;> simp [h]
  refine ⟨fun j => ?_, ?_, fun k => ?_, ?_, hcore.trans (State.freeEntry_sameCore ..)⟩
  · rw [State.freeEntry_entry, hentry, hentry]
    by_cases h : j = i <;> simp [h]
  · rw [State.freeEntry_port, hI, hsingle]
  · rw [State.freeEntry_port, hT, hsingle]
  · rw [State.freeEntry_freeCells, hcells, hentry]
    simp

/-- Freeing an entry that is owed no frame. -/
theorem State.EntriesReset.of_quiet {s : State} {i : EntryIndex} (hc : s.resetClosing i = none) (ha : ∀ k, s.resetAbort k i = none) :
    s.EntriesReset (s.freeEntry i) [i] :=
  .of_freeEntry rfl (by rw [hc]; exact (PortRecord.queued_nil _).symm) (fun k => by rw [ha]; exact (PortRecord.queued_nil _).symm) rfl
    s.sameCore_refl

/-- Warm reset's ABORT waits for no entry of its own: one that ABORTING spares has it queued, and one that has answered needs none. -/
theorem State.resetAbort_of_inactive {s : State} {i : EntryIndex} {x : Exchange} (hx : (s.entry i).exchange = some x)
    (h : x.state = .aborting ∨ x.targetActive = none) (k : Target) : s.resetAbort k i = none := by
  unfold State.resetAbort
  rw [hx]
  refine if_neg fun ⟨ha, hk, hr⟩ => ?_
  obtain h | h := h
  · exact ha h
  · refine x.targetActive_none.1 h ⟨?_, hk⟩
    obtain ⟨g, hg, hsent⟩ := (Option.any_eq_true _ _).1 hr
    rw [hg]
    exact (Bool.and_eq_true _ _ ▸ hsent).2

theorem State.resetAbort_of_active {s : State} {i : EntryIndex} {x : Exchange} {g : Routing} (hx : (s.entry i).exchange = some x)
    (ha : x.state ≠ .aborting) (h : x.targetActive = some g) (k : Target) :
    s.resetAbort k i = if g.link = k then some { bridgeAbort (s.refOf i) with entry := none } else none := by
  obtain ⟨hg, hsent, hk⟩ := (x.targetActive_eq g).1 h
  have hsent' : g.commandSent = true := by simpa [hg] using hsent
  unfold State.resetAbort
  rw [hx]
  by_cases hl : g.link = k <;> simp [ha, hk, hg, hl, hsent']

theorem State.resetClosing_of_open {s : State} {i : EntryIndex} {x : Exchange} (hx : (s.entry i).exchange = some x)
    (h : ¬(x.state = .aborting ∧ x.closed = true)) : s.resetClosing i = some (bridgeStatus (s.refOf i) x 0xD6#8) := by
  unfold State.resetClosing
  rw [hx]
  exact if_neg h

/-- The exchange closes with D6h and its entry is freed. -/
theorem State.closeAndFree_entriesReset {s : State} {i : EntryIndex} {x : Exchange} (hx : (s.entry i).exchange = some x)
    (hopen : ¬(x.state = .aborting ∧ x.closed = true)) (h : x.state = .aborting ∨ x.targetActive = none) :
    s.EntriesReset (s.closeAndFree i x codeBridgeReset) [i] := by
  obtain ⟨hI, hother⟩ := s.enqueue_queuedOn .i (bridgeStatus (s.refOf i) x 0xD6#8)
  refine .of_freeEntry (State.enqueue_entries ..) ?_ (fun k => ?_) (State.enqueue_made_freeCells ..) (State.enqueue_sameCore ..)
  · rw [State.resetClosing_of_open hx hopen]; exact hI
  · rw [State.resetAbort_of_inactive hx h]
    exact (hother _ (by cases k <;> nofun)).trans (PortRecord.queued_nil _).symm

/-- The exchange closes with D6h, its target is sent an ABORT that records no entry, and its entry is freed. -/
theorem State.abortAndFree_entriesReset {s : State} {i : EntryIndex} {x : Exchange} {g : Routing} (hx : (s.entry i).exchange = some x)
    (ha : x.state ≠ .aborting) (h : x.targetActive = some g) :
    s.EntriesReset (((s.queueStatus i x codeBridgeReset).queueResetAbort i g).freeEntry i) [i] := by
  have href : (s.queueStatus i x codeBridgeReset).refOf i = s.refOf i := by simp [State.refOf, State.queueStatus]
  obtain ⟨hI, hother⟩ := s.enqueue_queuedOn .i (bridgeStatus (s.refOf i) x 0xD6#8)
  obtain ⟨hT, hrest⟩ := (s.queueStatus i x codeBridgeReset).enqueue_queuedOn (targetPort g.link)
    { content := .made (abortFrame ((s.queueStatus i x codeBridgeReset).refOf i)) }
  have hne : ∀ k : Target, targetPort k ≠ .i := fun k => by cases k <;> nofun
  refine .of_freeEntry ((State.enqueue_entries ..).trans (State.enqueue_entries ..)) ?_ (fun k => ?_)
    ((State.enqueue_made_freeCells ..).trans (State.enqueue_made_freeCells ..)) ((State.enqueue_sameCore ..).trans (State.enqueue_sameCore ..))
  · rw [State.resetClosing_of_open hx fun hc => ha hc.1]
    exact (hrest .i (hne _).symm).trans hI
  · rw [State.resetAbort_of_active hx ha h]
    by_cases hl : g.link = k
    · subst hl
      rw [if_pos rfl]
      refine hT.trans ?_
      rw [href, State.queueStatus]
      exact congrArg (PortRecord.queued · _) (hother _ (hne _))
    · rw [if_neg hl]
      refine (hrest _ ?_).trans ((hother _ (hne _)).trans (PortRecord.queued_nil _).symm)
      revert hl
      cases k <;> cases g.link <;> simp [targetPort]

/-- The step of the warm reset on one entry, case by case (R147). -/
theorem State.resetEntry_entriesReset (s : State) (i : EntryIndex) : s.EntriesReset (s.resetEntry i) [i] := by
  unfold State.resetEntry
  split
  · next hx =>
    have hfree : s.freeEntry i = s := by unfold State.freeEntry; rw [hx]
    have hreset : s.EntriesReset (s.freeEntry i) [i] :=
      .of_quiet (by unfold State.resetClosing; rw [hx]) fun k => by unfold State.resetAbort; rw [hx]
    rw [hfree] at hreset
    exact hreset
  · next x hx =>
    split
    · next ha =>
      split
      · next hcl =>
        refine .of_quiet ?_ (State.resetAbort_of_inactive hx (.inl ha))
        unfold State.resetClosing
        rw [hx]
        exact if_pos ⟨ha, hcl⟩
      · next hcl => exact State.closeAndFree_entriesReset hx (fun h => hcl h.2) (.inl ha)
    · next ha =>
      split
      · next g hg => exact State.abortAndFree_entriesReset hx ha hg
      · next hg => exact State.closeAndFree_entriesReset hx (fun h => ha h.1) (.inr hg)

/-- All entries of a list that holds each once. -/
theorem State.foldl_resetEntry (l : List EntryIndex) (hl : l.Nodup) (s : State) : s.EntriesReset (l.foldl State.resetEntry s) l := by
  induction l generalizing s with
  | nil => exact .nil s
  | cons i l ih =>
    obtain ⟨hi, hl⟩ := List.nodup_cons.1 hl
    exact (s.resetEntry_entriesReset i).cons hi (ih hl _)

/-! ## The purge of the queues (R147) -/

theorem State.spares_congr {s t : State} (h : t.entries = s.entries) : t.spares = s.spares := by
  funext d
  have hat : t.exchangeAt = s.exchangeAt := funext fun r => State.exchangeAt_congr h r
  simp only [State.spares, hat]

/-- A port's record after the purge by `spares`: the spared ABORTs stand and record no entry. -/
def PortRecord.purgedBy (r : PortRecord) (spares : Descriptor → Bool) : PortRecord :=
  { r with egress := (r.egress.filter spares).map fun d => { d with entry := none } }

theorem State.purgeForReset_port (s : State) (p q : Port) :
    (s.purgeForReset p).port q = if q = p then (s.port q).purgedBy s.spares else s.port q := by
  simp only [State.purgeForReset, State.release_port, State.setPort_port]
  split
  · next h => subst h; rfl
  · rfl

theorem State.purgeForReset_entries (s : State) (p : Port) : (s.purgeForReset p).entries = s.entries := by simp [State.purgeForReset]

theorem State.purgeForReset_freeCells (s : State) (p : Port) :
    (s.purgeForReset p).freeCells = s.freeCells + queueCells ((s.port p).egress.filter fun d => !s.spares d) := by simp [State.purgeForReset]

theorem State.purgeForReset_sameCore (s : State) (p : Port) : s.sameCore (s.purgeForReset p) := by
  refine ⟨?_, ?_, ⟨?_, ?_, ?_, ?_, ?_, ?_⟩, ?_, ?_, ?_, ?_, ?_, ?_, ?_⟩ <;> simp [State.purgeForReset]

/-- The purge of all three ports. -/
def State.purgeAll (s : State) : State := ((s.purgeForReset .i).purgeForReset .t0).purgeForReset .t1

theorem State.purgeAll_entries (s : State) : s.purgeAll.entries = s.entries := by
  simp only [State.purgeAll, State.purgeForReset_entries]

theorem State.purgeAll_port (s : State) (q : Port) : s.purgeAll.port q = (s.port q).purgedBy s.spares := by
  have h1 : (s.purgeForReset .i).spares = s.spares := State.spares_congr (State.purgeForReset_entries ..)
  have h2 : ((s.purgeForReset .i).purgeForReset .t0).spares = s.spares := (State.spares_congr (State.purgeForReset_entries ..)).trans h1
  cases q <;> simp [State.purgeAll, State.purgeForReset_port, h1, h2]

theorem State.purgeAll_freeCells (s : State) :
    s.purgeAll.freeCells = s.freeCells + (allPorts.map fun p => queueCells ((s.port p).egress.filter fun d => !s.spares d)).sum := by
  have h1 : (s.purgeForReset .i).spares = s.spares := State.spares_congr (State.purgeForReset_entries ..)
  have h2 : ((s.purgeForReset .i).purgeForReset .t0).spares = s.spares := (State.spares_congr (State.purgeForReset_entries ..)).trans h1
  simp [State.purgeAll, State.purgeForReset_freeCells, State.purgeForReset_port, h1, h2, allPorts, Nat.add_assoc]

theorem State.purgeAll_sameCore (s : State) : s.sameCore s.purgeAll :=
  ((s.purgeForReset_sameCore .i).trans (State.purgeForReset_sameCore ..)).trans (State.purgeForReset_sameCore ..)

/-! ## The whole reset (R147, R148) -/

/-- The state with its entries reset, before the other blocks are. -/
def State.resetTable (s : State) : State := allEntries.foldl State.resetEntry s.purgeAll

theorem State.takeWarmReset_eq (s : State) : s.takeWarmReset = s.resetTable.resetBlocks := rfl

theorem State.resetTable_entriesReset (s : State) : s.purgeAll.EntriesReset s.resetTable allEntries :=
  State.foldl_resetEntry _ (List.nodup_finRange 64) _

/-- A port's record at a warm reset: its queue purged, what the reset queues at its tail where it is UP, a FAILED port in TRAINING. -/
theorem PortRecord.afterWarmReset_queued (r : PortRecord) (spares : Descriptor → Bool) (ds : List Descriptor) :
    ((r.purgedBy spares).queued ds).afterWarmReset =
      { r with
        egress := ((r.egress.filter spares).map fun d => { d with entry := none }) ++ (if r.state = .up then ds else []),
        state := if r.state = .failed then .training else r.state,
        initFailures := if r.state = .failed then 0 else r.initFailures } := by
  unfold PortRecord.afterWarmReset PortRecord.queued PortRecord.purgedBy
  by_cases hup : r.state = .up
  · simp [hup]
  · by_cases hf : r.state = .failed <;> simp [hup, hf]

theorem State.resetBlocks_port (s : State) (p : Port) : s.resetBlocks.port p = (s.port p).afterWarmReset := by cases p <;> rfl

theorem State.resetBlocks_freeCells (s : State) : s.resetBlocks.freeCells = s.freeCells := rfl

theorem State.takeWarmReset_entry (s : State) (i : EntryIndex) : s.takeWarmReset.entry i = { s.entry i with exchange := none } := by
  rw [State.takeWarmReset_eq, State.entry_congr (State.resetBlocks_entries _), s.resetTable_entriesReset.entry,
    if_pos (show i ∈ allEntries from List.mem_finRange i), State.entry_congr s.purgeAll_entries]

theorem State.takeWarmReset_portI (s : State) :
    s.takeWarmReset.port .i = (((s.port .i).purgedBy s.spares).queued (allEntries.filterMap s.resetClosing)).afterWarmReset := by
  have hclosing : s.purgeAll.resetClosing = s.resetClosing := funext fun i => State.resetClosing_congr (State.entry_congr s.purgeAll_entries i)
  rw [State.takeWarmReset_eq, State.resetBlocks_port, s.resetTable_entriesReset.portI, hclosing, State.purgeAll_port]

theorem State.takeWarmReset_target (s : State) (t : Target) :
    s.takeWarmReset.port (targetPort t)
      = (((s.port (targetPort t)).purgedBy s.spares).queued (allEntries.filterMap (s.resetAbort t))).afterWarmReset := by
  have habort : s.purgeAll.resetAbort t = s.resetAbort t := funext fun i => State.resetAbort_congr (State.entry_congr s.purgeAll_entries i) t
  rw [State.takeWarmReset_eq, State.resetBlocks_port, s.resetTable_entriesReset.target, habort, State.purgeAll_port]

theorem State.takeWarmReset_freeCells (s : State) :
    s.takeWarmReset.freeCells = s.freeCells + (allPorts.map fun p => queueCells ((s.port p).egress.filter fun d => !s.spares d)).sum
      + (allEntries.map fun i => (s.entry i).cells).sum := by
  have h : s.takeWarmReset.freeCells = s.resetTable.freeCells := (congrArg _ s.takeWarmReset_eq).trans (State.resetBlocks_freeCells _)
  have hcells : (allEntries.map fun i => (s.purgeAll.entry i).cells) = allEntries.map fun i => (s.entry i).cells :=
    List.map_congr_left fun i _ => by rw [State.entry_congr s.purgeAll_entries]
  rw [h, s.resetTable_entriesReset.freeCells, State.purgeAll_freeCells, hcells]

/-- What the reset clears, starts and keeps beside the entries, the ports and the cells (R148). -/
theorem State.takeWarmReset_blocks (s : State) :
    let v := s.takeWarmReset
    v.holdQueue = [] ∧ v.startList = [] ∧ v.lease = none ∧ v.warmPending = false ∧ v.alerts = [] ∧ v.dropped = 0 ∧ v.batch = none
      ∧ v.sequence = 0#16 ∧ v.resync = some (s.clock + 2#32) ∧ v.bankA = s.bankA ∧ v.bankB = s.bankB ∧ v.active = s.active
      ∧ v.generation = s.generation ∧ v.dirty = s.dirty ∧ v.clock = s.clock ∧ v.rotation = s.rotation := by
  have hcore : s.sameCore s.resetTable := s.purgeAll_sameCore.trans s.resetTable_entriesReset.core
  rw [State.takeWarmReset_eq]
  generalize s.resetTable = w at hcore
  obtain ⟨-, hclock, ⟨hA, hB, hactive, hgen, hdirty, -⟩, -, -, -, -, hrot, -, -⟩ := hcore
  exact ⟨rfl, rfl, rfl, rfl, rfl, rfl, rfl, rfl, by rw [← hclock]; rfl, hA, hB, hactive, hgen, hdirty, hclock, hrot⟩

/-- A bridge-made frame with the mark is sent whole, and the warm reset follows (R147). -/
theorem State.sendHead_of_marked {s : State} {d : Descriptor} {f : Frame} (rest : List Descriptor) (hc : d.content = .made f)
    (hw : d.warmMark = true) : s.sendHead .i d rest = (s.afterSending .i f rest).takeWarmReset := by
  have hd : d.isData = false := by simp [Descriptor.isData, hc]
  have hr : d.isRequest = false := by simp [Descriptor.isRequest, hc]
  have ha : d.isAlert = false := by simp [Descriptor.isAlert, hc]
  have hcompleted : ∀ u : State, u.completed .i d = u.takeWarmReset := fun u => by
    simp only [State.completed, hd, hr, ha, hw, Bool.false_eq_true, and_false, if_false, if_true]
    cases d.entry <;> rfl
  rw [State.sendHead_of_last rest (Descriptor.progressAfter_of_not_data hd _), State.frameToSend_of_made s hc, hcompleted,
    show d.cells = 0 by simp [Descriptor.cells, hc]]
  rfl

/-- Settles O44: the purge, the entries and the other blocks, each read from the state before. -/
theorem warmResetTakesEffect : Obligations.WarmResetTakesEffect := by
  intro s d rest f hp hup hcredit hq hc hw queue spared purged closings aborts
  let u := s.afterSending .i f rest
  have hentry : ∀ i, u.entry i = s.entry i := fun i => State.afterSending_entry ..
  have hspares : u.spares = s.spares := State.spares_congr (State.afterSending_entries ..)
  have hI : u.port .i = { s.portI with egress := rest, peerCredit := s.portI.peerCredit - 1, wire := s.portI.wire ++ [f.encode] } :=
    State.setPort_port_self ..
  have hT : ∀ t, u.port (targetPort t) = s.port (targetPort t) := fun t => State.setPort_port_ne _ _ (by cases t <;> nofun)
  have hqueue : ∀ p, (u.port p).egress = queue p := fun p => by cases p <;> rfl
  have hpass : s.passesHead .i d = true := State.passesHead_of_not_data (by simp [Descriptor.isData, hc])
  refine ⟨u.takeWarmReset, ?_, fun i => ?_, ?_, fun t => ?_, ?_, u.takeWarmReset_blocks⟩
  · rw [exec_transmission hp hup hcredit hq hpass, State.sendHead_of_marked rest hc hw]
  · rw [State.takeWarmReset_entry, hentry]
  · have hclosing : u.resetClosing = s.resetClosing := funext fun i => State.resetClosing_congr (hentry i)
    have hstate : s.portI.state = .up := hup
    show u.takeWarmReset.port .i = _
    rw [State.takeWarmReset_portI, hI, PortRecord.afterWarmReset_queued, hclosing, hspares]
    simp only [hstate, if_true, reduceCtorEq, if_false]
    rfl
  · have habort : u.resetAbort t = s.resetAbort t := funext fun i => State.resetAbort_congr (hentry i) t
    rw [State.takeWarmReset_target, hT, PortRecord.afterWarmReset_queued, habort, hspares]
    have ht : queue (targetPort t) = (s.port (targetPort t)).egress := by cases t <;> rfl
    simp only [spared, ht]
    rfl
  · rw [State.takeWarmReset_freeCells, hspares]
    simp only [hqueue, hentry]
    rfl

end Sys2Proof.Machine
end

section
/-! View and reply matching: the valid record of the lowest index that serves a request (R31, R40). -/

namespace Sys2Proof.Machine

/-! ## The first record of a table -/

/-- A search that answers the record at an index where there is one and it serves, answers the one at the lowest such index. -/
theorem findSome?_finRange_eq_some_iff {n : Nat} {α : Type} {get : Fin n → Option α} {serves : α → Bool} {f : Fin n → Option (Fin n × α)}
    (absent : ∀ j, get j = none → f j = none) (present : ∀ j w, get j = some w → f j = if serves w then some (j, w) else none)
    {k : Fin n} {v : α} :
    (List.finRange n).findSome? f = some (k, v)
      ↔ get k = some v ∧ serves v = true ∧ ∀ j, j < k → ∀ w, get j = some w → ¬serves w = true := by
  have hsome : ∀ j, f j = some (k, v) ↔ j = k ∧ get j = some v ∧ serves v = true := fun j => by
    cases h : get j with
    | none => simp [absent j h]
    | some w => rw [present j w h, Option.ite_none_right_eq_some]; grind
  have hnone : ∀ j, f j = none ↔ ∀ w, get j = some w → ¬serves w = true := fun j => by
    cases h : get j with
    | none => simp [absent j h]
    | some w => simp [present j w h]
  rw [← Fin.findSome?_eq_findSome?_finRange, Fin.findSome?_eq_some_iff]
  simp only [hsome, hnone, and_assoc, exists_eq_left]

/-! ## What a record must have to match -/

theorem View.serves_iff (v : View) (n : InitiatorId) (unit : Byte) :
    v.serves n unit = true ↔ v.mask.getLsbD n.val = true ∧ v.virtualUnit = unit := by
  simp [View.serves]

/-- A selector that is not ANY matches no absent parameter block (R40). -/
theorem selectorMatches_iff (sel : Option Byte) (params : List Byte) :
    selectorMatches sel params = true ↔ sel = none ∨ ∃ c rest, params = c :: rest ∧ sel = some c := by
  cases sel with
  | none => simp [selectorMatches]
  | some b =>
    cases params with
    | nil => simp [selectorMatches]
    | cons c rest => simp [selectorMatches, eq_comm (a := b)]

theorem ReplyRecord.matches_iff (r : ReplyRecord) (v : View) (opcode : Byte) (params : List Byte) :
    r.matches v opcode params = true ↔ linkOfCode r.linkCode = v.link ∧ r.unit = v.unit ∧ r.opcode = opcode
      ∧ (r.selector = none ∨ ∃ c rest, params = c :: rest ∧ r.selector = some c) := by
  simp [ReplyRecord.matches, selectorMatches_iff, and_assoc]

theorem Bank.matchView_eq_some_iff {b : Bank} {n : InitiatorId} {unit : Byte} {k : ViewIndex} {v : View} :
    b.matchView n unit = some (k, v) ↔ b.views.get k = some v ∧ v.serves n unit = true
      ∧ ∀ j, j < k → ∀ w, b.views.get j = some w → ¬w.serves n unit = true :=
  findSome?_finRange_eq_some_iff (get := b.views.get) (serves := (·.serves n unit)) (fun _ h => by simp only [h])
    (fun _ _ h => by simp only [h])

theorem Bank.matchReply_eq_some_iff {b : Bank} {v : View} {opcode : Byte} {params : List Byte} {k : ReplyIndex} {r : ReplyRecord} :
    b.matchReply v opcode params = some (k, r) ↔ b.replies.get k = some r ∧ r.matches v opcode params = true
      ∧ ∀ j, j < k → ∀ w, b.replies.get j = some w → ¬w.matches v opcode params = true :=
  findSome?_finRange_eq_some_iff (get := b.replies.get) (serves := (·.matches v opcode params)) (fun _ h => by simp only [h])
    (fun _ _ h => by simp only [h])

/-! ## The statement -/

/-- Settles O19: each search answers the first record of its table that serves, and what serving asks for is spelled out. -/
theorem lowestServingRecordsMatch : Obligations.LowestServingRecordsMatch := by
  constructor
  · intro b n unit k v
    rw [Bank.matchView_eq_some_iff]
    simp only [View.serves_iff, and_assoc]
  · intro b v opcode params k r serves
    rw [Bank.matchReply_eq_some_iff]
    simp only [ReplyRecord.matches_iff, serves]

end Sys2Proof.Machine
end

section
/-! Fields and bytes of a layout: what a field of a written list of bytes reads as, and the codes of 13.2. -/

namespace Sys2Proof.Machine

/-! ## Fields (13.1) -/

@[simp] theorem length_toBE (k v : Nat) : (toBE k v).length = k := by
  induction k with
  | zero => rfl
  | succ k ih => rw [toBE, List.length_cons, ih]

theorem beNat_toBE (k v : Nat) : beNat (toBE k v) = v % 256 ^ k := by
  induction k with
  | zero => simp [toBE, beNat, Nat.mod_one]
  | succ k ih => rw [toBE, beNat, ih, length_toBE, BitVec.toNat_ofNat, Nat.mod_pow_succ (x := v) (b := 256), Nat.mul_comm, Nat.add_comm]

/-- A field reads as the number written there when the number fits. -/
theorem fieldAt_eq {f : List Byte} {n k v : Nat} (written : (f.drop n).take k = toBE k v) (fits : v < 256 ^ k) : fieldAt f n k = v := by
  rw [fieldAt, written, beNat_toBE, Nat.mod_eq_of_lt fits]

theorem beNat_lt (bs : List Byte) : beNat bs < 256 ^ bs.length := by
  induction bs with
  | nil => decide
  | cons b bs ih =>
    have hb : b.toNat * 256 ^ bs.length ≤ 255 * 256 ^ bs.length := Nat.mul_le_mul_right _ (by omega)
    rw [beNat, List.length_cons, Nat.pow_succ]
    omega

theorem fieldAt_lt (f : List Byte) (n k : Nat) : fieldAt f n k < 256 ^ k :=
  (beNat_lt _).trans_le (Nat.pow_le_pow_right (by decide) (List.length_take_le k _))

/-- A byte reads as the number written there when the number fits. -/
theorem toNat_byte_eq {b : Byte} {n : Nat} (written : b = BitVec.ofNat 8 n) (fits : n < 256) : b.toNat = n := by
  rw [written, BitVec.toNat_ofNat, Nat.mod_eq_of_lt fits]

theorem byteAt_replicate_zero (k n : Nat) : byteAt (List.replicate k 0#8) n = 0#8 := by
  rw [byteAt, List.getD_eq_getElem?_getD, List.getElem?_getD_replicate_default_eq]

theorem bitIf_eq (b : Bool) (v : Nat) : bitIf b v = if b then v else 0 := rfl

theorem bitIf_le (b : Bool) (v : Nat) : bitIf b v ≤ v := by cases b <;> simp [bitIf]

theorem bytesZero_iff {f : List Byte} {ns : List Nat} : bytesZero f ns = true ↔ ∀ n ∈ ns, byteAt f n = 0#8 := by simp [bytesZero]

/-! ## Codes written (13.2) -/

theorem EntryState.code_mem (s : EntryState) :
    (s, s.code) ∈ [(.held, 0x01#8), (.issued, 0x02#8), (.moving, 0x03#8), (.replying, 0x04#8), (.mgmtBody, 0x05#8), (.mgmtAnswer, 0x06#8),
      (EntryState.aborting, 0x07#8)] := by cases s <;> decide

theorem ExchangeKind.code_mem (k : ExchangeKind) :
    (k, k.code) ∈ [(ExchangeKind.data, 0x01#8), (.queryReply, 0x02#8), (.mgmt, 0x03#8)] := by cases k <;> decide

theorem AbortOrigin.code_mem (o : Option AbortOrigin) :
    (o, (o.map AbortOrigin.code).getD 0x00#8) ∈ [(none, 0x00#8), (some AbortOrigin.initiator, 0x01#8), (some .timeout, 0x02#8),
      (some .phase, 0x03#8), (some .management, 0x04#8)] := by
  cases o with
  | none => decide
  | some a => cases a <;> decide

theorem Direction.code_mem (d : Direction) :
    (d, d.code) ∈ [(Direction.noData, 0x00#8), (.dirIn, 0x01#8), (.dirOut, 0x02#8)] := by cases d <;> decide

theorem targetCode_mem (t : Target) : (t, targetCode t) ∈ [(Target.t0, 0x00#8), (.t1, 0x01#8)] := by cases t <;> decide

/-- An exchange without routing shows FFh as its link. -/
theorem Routing.linkCode_mem (g : Option Routing) :
    (g.map Routing.link, (g.map fun r => targetCode r.link).getD 0xFF#8) ∈ [(none, 0xFF#8), (some .t0, 0x00#8), (some Target.t1, 0x01#8)] := by
  cases g with
  | none => decide
  | some r => obtain ⟨link, _, _, _⟩ := r; cases link <;> simp [targetCode]

theorem DeadlineKind.code_mem (d : Option Deadline) :
    (d.map Deadline.kind, (d.map fun t => t.kind.code).getD 0x00#8) ∈ [(none, 0x00#8), (some DeadlineKind.exchange, 0x01#8),
      (some .hold, 0x02#8), (some .grace, 0x03#8), (some .body, 0x04#8)] := by
  cases d with
  | none => decide
  | some t => obtain ⟨kind, _⟩ := t; cases kind <;> simp [DeadlineKind.code]

theorem HoldMode.code_mem (m : HoldMode) :
    (m, m.code) ∈ [(HoldMode.noHold, 0x00#8), (.holdWrites, 0x01#8), (.holdAll, 0x02#8)] := by cases m <;> decide

theorem OpClass.code_mem (c : OpClass) :
    (c, c.code) ∈ [(OpClass.undefined, 0x00#8), (.readBlocks, 0x01#8), (.writeBlocks, 0x02#8), (.control, 0x03#8), (.query, 0x04#8),
      (.forbidden, 0x05#8)] := by cases c <;> decide

theorem PortState.code_mem (s : PortState) :
    (s, s.code) ∈ [(PortState.down, 0x00#8), (.training, 0x01#8), (.initWait, 0x02#8), (.up, 0x03#8), (.failed, 0x04#8)] := by
  cases s <;> decide

/-! ## Bytes put together from an exchange -/

theorem toNat_initiatorByte (n : InitiatorId) : (initiatorByte n).toNat = n.val :=
  toNat_byte_eq rfl (n.isLt.trans (by decide))

theorem toNat_pictureFlags (x : Exchange) :
    (pictureFlags x).toNat = (if x.closed then 1 else 0) + (if x.routing.any Routing.commandSent then 2 else 0)
      + (if x.parked.isSome then 4 else 0) + (if x.routing.isSome then 8 else 0) + (if x.proceeded.isSome then 16 else 0) := by
  have hsent : (x.routing.map Routing.commandSent).getD false = x.routing.any Routing.commandSent := by cases x.routing <;> rfl
  unfold pictureFlags
  rw [hsent]
  refine toNat_byte_eq rfl ?_
  have h1 := bitIf_le x.closed 1
  have h2 := bitIf_le (x.routing.any Routing.commandSent) 2
  have h4 := bitIf_le x.parked.isSome 4
  have h8 := bitIf_le x.routing.isSome 8
  have h16 := bitIf_le x.proceeded.isSome 16
  simp only [bitIf_eq] at *
  omega

/-- An absent view shows FFh; an index is below 128. -/
theorem toNat_viewByte (k : Option ViewIndex) :
    ((k.map fun v => BitVec.ofNat 8 v.val).getD 0xFF#8).toNat = (k.map fun v => v.val).getD 0xFF := by
  cases k with
  | none => rfl
  | some v => exact toNat_byte_eq rfl (v.isLt.trans (by decide))

theorem routedBlock_lt (g : Option Routing) : (g.map fun r => r.block.toNat).getD 0 < 256 ^ 5 := by
  cases g with
  | none => decide
  | some r => exact r.block.isLt

theorem due_lt (d : Option Deadline) : (d.map fun t => t.due.toNat).getD 0 < 256 ^ 4 := by
  cases d with
  | none => decide
  | some t => exact t.due.isLt

/-! ## Records of a bank (R145) -/

theorem Bank.recordBytes_initiators (b : Bank) (n : InitiatorId) :
    b.recordBytes .initiators n.val = encodeOr 4 ((b.initiators.get n).map InitiatorRecord.encode) := by
  simp [Bank.recordBytes, Vector.get_eq_getElem]

theorem Bank.recordBytes_views (b : Bank) (n : ViewIndex) :
    b.recordBytes .views n.val = encodeOr 24 ((b.views.get n).map View.encode) := by
  simp [Bank.recordBytes, Vector.get_eq_getElem]

theorem Bank.recordBytes_classes (b : Bank) (n : Fin 256) :
    b.recordBytes .classes n.val = [(b.classes.get n).code, 0x00#8, 0x00#8, 0x00#8] := by
  simp [Bank.recordBytes, Vector.get_eq_getElem]

theorem Bank.recordBytes_replies (b : Bank) (n : ReplyIndex) :
    b.recordBytes .replies n.val = encodeOr 12 ((b.replies.get n).map ReplyRecord.encode) := by
  simp [Bank.recordBytes, Vector.get_eq_getElem]

theorem InitiatorRecord.toNat_byteAt_encode_zero (r : InitiatorRecord) :
    (byteAt r.encode 0).toNat = 1 + (if r.dataRight then 2 else 0) + (if r.mgmtRight then 4 else 0) := by
  refine toNat_byte_eq rfl ?_
  have h2 := bitIf_le r.dataRight 2
  have h4 := bitIf_le r.mgmtRight 4
  simp only [bitIf_eq] at *
  omega

theorem View.toNat_byteAt_encode_zero (v : View) :
    (byteAt v.encode 0).toNat = 1 + (if v.readRight then 2 else 0) + (if v.writeRight then 4 else 0) + (if v.controlRight then 8 else 0)
      + (if v.alertOnDeny then 16 else 0) := by
  refine toNat_byte_eq rfl ?_
  have h2 := bitIf_le v.readRight 2
  have h4 := bitIf_le v.writeRight 4
  have h8 := bitIf_le v.controlRight 8
  have h16 := bitIf_le v.alertOnDeny 16
  simp only [bitIf_eq] at *
  omega

end Sys2Proof.Machine
end

section
/-! The pictures of READ_EXCHANGE, HOLD_LIST and LINK_STATE and the records of READ_ENTRY, byte by byte (R24, R89, R103, R145, R146; 13.2). -/

namespace Sys2Proof.Machine

/-- A FREE entry shows its incarnation alone. -/
theorem byteAt_entryPicture_of_free {e : Entry} (h : e.exchange = none) {n : Nat} (hn : n ≠ 1) : byteAt (entryPicture e) n = 0#8 := by
  unfold entryPicture
  rw [h]
  match n, hn with
  | 0, _ => rfl
  | n + 2, _ => exact byteAt_replicate_zero 38 n

/-- Settles O48, layout by layout: the picture is cut into its bytes once, then each byte stands where 13.2 puts it, and each field reads as the
number written there. -/
theorem picturesFollowLayouts : Obligations.PicturesFollowLayouts := by
  refine ⟨fun e => ?entry, fun s h x hx => ?place, fun b n => ?initiator, fun b n => ?view, fun b n => ?cls, fun b n => ?reply,
    fun s q n => ?port⟩
  case entry =>
    intro p
    have hinc : (BitVec.ofNat 8 e.inc.val).toNat = e.inc.val := toNat_byte_eq rfl (by omega)
    have hp : p = entryPicture e := rfl
    clear_value p
    cases he : e.exchange with
    | none =>
      have hzero : ∀ n, n ≠ 1 → byteAt p n = 0#8 := fun n hn => by rw [hp]; exact byteAt_entryPicture_of_free he hn
      simp only [entryPicture, he, List.cons_append] at hp
      refine ⟨by rw [hp]; rfl, by rw [hp]; exact hinc, fun _ => hzero, fun x hx => absurd hx (Option.some_ne_none x).symm⟩
    | some x =>
      simp only [entryPicture, he, toBE, List.cons_append, List.nil_append] at hp
      subst hp
      refine ⟨rfl, hinc, fun h => absurd h (Option.some_ne_none x), ?_⟩
      rintro _ ⟨⟩
      refine ⟨x.state.code_mem, x.kind.code_mem, toNat_pictureFlags x, toNat_initiatorByte x.initiator, AbortOrigin.code_mem x.origin,
        fieldAt_eq rfl x.tag.isLt, rfl, x.direction.code_mem, toNat_viewByte x.view, Routing.linkCode_mem x.routing, rfl,
        fieldAt_eq rfl (routedBlock_lt x.routing), fun r hr => ?_, fun hr => ?_, DeadlineKind.code_mem x.deadline,
        fieldAt_eq rfl (due_lt x.deadline), (fieldAt_eq rfl ·), (fieldAt_eq rfl ·), (fieldAt_eq rfl ·), fun n hn => ?_⟩
      · exact toNat_byte_eq (show pictureItem x = _ by simp only [pictureItem, hr]) (by omega)
      · show pictureItem x = _
        simp only [pictureItem, hr]
      · fin_cases hn <;> rfl
  case place =>
    intro p
    have hp : p = placePicture s h := rfl
    clear_value p
    simp only [placePicture, hx, toBE, List.cons_append, List.nil_append] at hp
    subst hp
    refine ⟨rfl, toNat_byte_eq rfl (by omega), toNat_byte_eq rfl (by omega), toNat_initiatorByte x.initiator, fieldAt_eq rfl x.tag.isLt, rfl,
      x.direction.code_mem, fun k hk => ?_, fun g hg => ⟨?_, ?_, ?_⟩, (fieldAt_eq rfl ·), fun f hf => ?_, (fieldAt_eq rfl ·), fun d hd => ?_⟩
    · exact toNat_byte_eq (by rw [hk]; rfl) (by omega)
    · rw [hg]; exact targetCode_mem g.link
    · rw [hg]; rfl
    · rw [hg]; exact fieldAt_eq rfl g.block.isLt
    · exact fieldAt_eq (by simp only [heldCount, hf]; rfl) (fieldAt_lt f 17 2)
    · intro hv
      exact fieldAt_eq (by simp only [timeRemaining, hd]; rfl) hv
  case initiator =>
    intro p
    have hp : p = encodeOr 4 ((b.initiators.get n).map InitiatorRecord.encode) := b.recordBytes_initiators n
    clear_value p
    refine ⟨fun h => by rw [hp, h]; rfl, fun r h => ?_⟩
    simp only [h, encodeOr, Option.map_some, Option.getD_some, InitiatorRecord.encode, toBE, List.cons_append, List.nil_append] at hp
    subst hp
    exact ⟨rfl, r.toNat_byteAt_encode_zero, (toNat_byte_eq rfl ·), (fieldAt_eq rfl ·)⟩
  case view =>
    intro p
    have hp : p = encodeOr 24 ((b.views.get n).map View.encode) := b.recordBytes_views n
    clear_value p
    refine ⟨fun h => by rw [hp, h]; rfl, fun v h => ?_⟩
    simp only [h, encodeOr, Option.map_some, Option.getD_some, View.encode, toBE, List.cons_append, List.nil_append] at hp
    subst hp
    exact ⟨rfl, v.toNat_byteAt_encode_zero, v.holdMode.code_mem, fieldAt_eq rfl v.mask.isLt, rfl, rfl, rfl, rfl, fieldAt_eq rfl v.base.isLt,
      (fieldAt_eq rfl ·), rfl, (fieldAt_eq rfl ·), (fieldAt_eq rfl ·)⟩
  case cls =>
    intro p
    have hp : p = [(b.classes.get n).code, 0x00#8, 0x00#8, 0x00#8] := b.recordBytes_classes n
    rw [hp]
    exact ⟨rfl, (b.classes.get n).code_mem, rfl, rfl, rfl⟩
  case reply =>
    intro p
    have hp : p = encodeOr 12 ((b.replies.get n).map ReplyRecord.encode) := b.recordBytes_replies n
    clear_value p
    refine ⟨fun h => by rw [hp, h]; rfl, fun r h => ?_⟩
    simp only [h, encodeOr, Option.map_some, Option.getD_some, ReplyRecord.encode, toBE, List.cons_append, List.nil_append] at hp
    subst hp
    refine ⟨?_, rfl, rfl, rfl, rfl, fun hsel => ?_, fun c hsel => ?_, rfl, rfl, (fieldAt_eq rfl ·), rfl, rfl, rfl⟩
    · exact (Nat.add_comm 12 r.data.length).symm
    · rw [hsel]; exact ⟨rfl, rfl⟩
    · rw [hsel]; exact ⟨rfl, rfl⟩
  case port =>
    intro r p
    have hp : p = portPicture s q n := rfl
    clear_value p
    simp only [portPicture, toBE, List.cons_append, List.nil_append] at hp
    subst hp
    refine ⟨rfl, r.state.code_mem, (toNat_byte_eq rfl ·), fun h => ?_, fun m hm h => toNat_byte_eq ?_ hm,
      (toNat_byte_eq rfl ·), (fieldAt_eq rfl ·), fun h => fieldAt_eq ?_ h⟩
    · have hseg : (s.port q).peerSegment = none := h
      rw [hseg]; rfl
    · have hseg : (s.port q).peerSegment = some (64 * m) := h
      rw [hseg, Option.getD_some, Nat.mul_div_cancel_left m (by decide)]; rfl
    · have hdepth : queueDepth s q n = (s.port q).egress.length := if_pos h
      rw [hdepth]; rfl

end Sys2Proof.Machine
end

section
/-! The records of the four tables, written and read back, and the record that a WRITE_ENTRY body stores (R24, R27, R30, R37, R39, R150; 13.2). -/

namespace Sys2Proof.Machine

/-! ## Codes read (13.2) -/

theorem holdModeOf_eq_some_iff {b : Byte} {m : HoldMode} :
    holdModeOf b = some m ↔ (b, m) ∈ [(0x00#8, HoldMode.noHold), (0x01#8, .holdWrites), (0x02#8, .holdAll)] := by
  constructor
  · intro h
    unfold holdModeOf at h
    split_ifs at h with h0 h1 h2 <;> cases h <;> simp [*]
  · intro h
    fin_cases h <;> rfl

theorem holdModeOf_code (m : HoldMode) : holdModeOf m.code = some m := by cases m <;> rfl

theorem exists_holdModeOf_iff {b : Byte} : (∃ m, holdModeOf b = some m) ↔ b.toNat ≤ 2 := by
  constructor
  · rintro ⟨m, h⟩
    rw [holdModeOf_eq_some_iff] at h
    fin_cases h <;> decide
  · intro h
    have hb : b = 0x00#8 ∨ b = 0x01#8 ∨ b = 0x02#8 := by bv_omega
    rcases hb with rfl | rfl | rfl <;> exact ⟨_, rfl⟩

theorem classOf_eq_some_iff {b : Byte} {c : OpClass} :
    classOf b = some c ↔ (b, c) ∈ [(0x00#8, OpClass.undefined), (0x01#8, .readBlocks), (0x02#8, .writeBlocks), (0x03#8, .control),
      (0x04#8, .query), (0x05#8, .forbidden)] := by
  constructor
  · intro h
    unfold classOf at h
    split_ifs at h <;> cases h <;> simp [*]
  · intro h
    fin_cases h <;> rfl

theorem exists_classOf_iff {b : Byte} : (∃ c, classOf b = some c) ↔ b.toNat ≤ 5 := by
  constructor
  · rintro ⟨m, h⟩
    rw [classOf_eq_some_iff] at h
    fin_cases h <;> decide
  · intro h
    have hb : b = 0x00#8 ∨ b = 0x01#8 ∨ b = 0x02#8 ∨ b = 0x03#8 ∨ b = 0x04#8 ∨ b = 0x05#8 := by bv_omega
    rcases hb with rfl | rfl | rfl | rfl | rfl | rfl <;> exact ⟨_, rfl⟩

/-- ANY is code 01h with a zero value (log entry 18). -/
theorem readSelector_eq (code value : Byte) :
    readSelector code value
      = if code = 0x00#8 ∨ code = 0x01#8 ∧ value = 0#8 then some (if code = 0x00#8 then some value else none) else none := by
  unfold readSelector
  by_cases h : code = 0x00#8 <;> simp [h]

/-! ## What a body must hold, and the record it spells (R150) -/

/-- The shape of the record readers: the length, then the validity bit, then the bounds of a valid record's fields. -/
theorem guardedRead_eq_some_iff {α : Type} {badLength InBounds : Prop} [Decidable badLength] {valid : Bool} {present : Option (Option α)}
    {record : α} {r : Option α} (h : present = some r ↔ InBounds ∧ some record = r) :
    (if badLength then none else if !valid then some none else present) = some r
      ↔ (¬badLength ∧ (valid = true → InBounds)) ∧ (if valid = true then some record else none) = r := by
  by_cases hl : badLength
  · simp [hl]
  · cases valid <;> simp [hl, h]

/-- The body of an initiator record passes check 3 of R150. -/
def InitiatorRecord.Storable (body : List Byte) : Prop :=
  body.length = 4 ∧ ((byteAt body 0).getLsbD 0 = true → (byteAt body 0).toNat < 8 ∧ 1 ≤ (byteAt body 1).toNat ∧ (byteAt body 1).toNat ≤ 16
    ∧ 1 ≤ fieldAt body 2 2 ∧ fieldAt body 2 2 ≤ 600)

/-- The initiator record that a body spells; absent where its validity bit is clear (R24). -/
def InitiatorRecord.spelled (body : List Byte) : Option InitiatorRecord :=
  if (byteAt body 0).getLsbD 0 = true then
    some { dataRight := (byteAt body 0).getLsbD 1, mgmtRight := (byteAt body 0).getLsbD 2, quota := (byteAt body 1).toNat,
           leaseTime := fieldAt body 2 2 }
  else none

theorem readInitiatorRecord_eq_some_iff {body : List Byte} {r : Option InitiatorRecord} :
    readInitiatorRecord body = some r ↔ InitiatorRecord.Storable body ∧ InitiatorRecord.spelled body = r := by
  unfold readInitiatorRecord
  refine (guardedRead_eq_some_iff ?_).trans (Iff.and (Iff.and not_not Iff.rfl) Iff.rfl)
  rw [Option.ite_none_right_eq_some, Option.some_inj, Nat.div_eq_zero_iff_lt (by decide)]
  rfl

/-- The body of a view record passes check 3 of R150. -/
def View.Storable (body : List Byte) : Prop :=
  body.length = 24 ∧ ((byteAt body 0).getLsbD 0 = true → (byteAt body 0).toNat < 32 ∧ (byteAt body 1).toNat ≤ 2 ∧ byteAt body 4 ≠ 0xFF#8
    ∧ byteAt body 6 ≠ 0xFF#8 ∧ 1 ≤ fieldAt body 13 6 ∧ byteAt body 19 = 0#8 ∧ 1 ≤ fieldAt body 20 2 ∧ fieldAt body 20 2 ≤ 600
    ∧ 1 ≤ fieldAt body 22 2 ∧ fieldAt body 22 2 ≤ 6000)

/-- The view that the bytes of a valid record spell, at a hold mode. -/
def View.ofBytes (body : List Byte) (mode : HoldMode) : View where
  mask := BitVec.ofNat 16 (fieldAt body 2 2)
  virtualUnit := byteAt body 4
  linkCode := byteAt body 5
  unit := byteAt body 6
  base := BitVec.ofNat 40 (fieldAt body 8 5)
  extent := fieldAt body 13 6
  blockSizeCode := byteAt body 7
  readRight := (byteAt body 0).getLsbD 1
  writeRight := (byteAt body 0).getLsbD 2
  controlRight := (byteAt body 0).getLsbD 3
  holdMode := mode
  holdWait := fieldAt body 20 2
  timeout := fieldAt body 22 2
  alertOnDeny := (byteAt body 0).getLsbD 4

/-- The view record that a body spells; absent where its validity bit is clear (R24). A storable body has a hold mode's code in byte 1. -/
def View.spelled (body : List Byte) : Option View :=
  if (byteAt body 0).getLsbD 0 = true then some (View.ofBytes body ((holdModeOf (byteAt body 1)).getD .noHold)) else none

theorem readView_eq_some_iff {body : List Byte} {r : Option View} :
    readView body = some r ↔ View.Storable body ∧ View.spelled body = r := by
  unfold readView
  refine (guardedRead_eq_some_iff ?_).trans (Iff.and (Iff.and not_not Iff.rfl) Iff.rfl)
  rw [← exists_holdModeOf_iff]
  cases holdModeOf (byteAt body 1) with
  | none => simp
  | some mode =>
    rw [Option.ite_none_right_eq_some, Option.some_inj, Nat.div_eq_zero_iff_lt (by decide)]
    refine Iff.and ?_ Iff.rfl
    grind

/-- The fields of a valid reply record are within the bounds of check 3 of R150. -/
def ReplyRecord.InBounds (body : List Byte) : Prop :=
  (byteAt body 0).toNat < 2 ∧ byteAt body 2 ≠ 0xFF#8 ∧ (byteAt body 4 = 0x00#8 ∨ byteAt body 4 = 0x01#8 ∧ byteAt body 5 = 0#8)
    ∧ (byteAt body 6).toNat < 0xC0 ∧ byteAt body 7 = 0#8 ∧ byteAt body 10 = 0#8 ∧ byteAt body 11 = 0#8

/-- The body of a reply record passes check 3 of R150; the length rule holds of an invalid one too (log entry 18). -/
def ReplyRecord.Storable (body : List Byte) : Prop :=
  12 ≤ body.length ∧ fieldAt body 8 2 ≤ 256 ∧ body.length = 12 + fieldAt body 8 2
    ∧ ((byteAt body 0).getLsbD 0 = true → ReplyRecord.InBounds body)

/-- The reply record that a body spells; absent where its validity bit is clear (R24). -/
def ReplyRecord.spelled (body : List Byte) : Option ReplyRecord :=
  if (byteAt body 0).getLsbD 0 = true then
    some { linkCode := byteAt body 1, unit := byteAt body 2, opcode := byteAt body 3,
           selector := if byteAt body 4 = 0x00#8 then some (byteAt body 5) else none, code := byteAt body 6, data := body.drop 12 }
  else none

theorem readReplyRecord_eq_some_iff {body : List Byte} {r : Option ReplyRecord} :
    readReplyRecord body = some r ↔ ReplyRecord.Storable body ∧ ReplyRecord.spelled body = r := by
  unfold readReplyRecord
  refine (guardedRead_eq_some_iff (InBounds := ReplyRecord.InBounds body) ?present).trans (Iff.and ?length Iff.rfl)
  case length =>
    rw [ReplyRecord.Storable, not_or, not_or, not_lt, not_lt, not_not, and_assoc, and_assoc]
    rfl
  case present =>
    rw [readSelector_eq, ReplyRecord.InBounds]
    by_cases hcode : byteAt body 4 = 0x00#8 ∨ byteAt body 4 = 0x01#8 ∧ byteAt body 5 = 0#8
    · rw [if_pos hcode]
      simp only [Option.ite_none_right_eq_some, Option.some_inj, Nat.div_eq_zero_iff_lt (show 0 < 2 by decide), bytesZero_iff,
        List.forall_mem_cons, List.not_mem_nil, false_imp_iff, implies_true, and_true, hcode, true_and]
      refine Iff.and ?_ Iff.rfl
      tauto
    · rw [if_neg hcode]
      simp only [hcode, false_and, and_false, reduceCtorEq]

/-- The body of a class record passes check 3 of R150. -/
def OpClass.Storable (body : List Byte) : Prop :=
  body.length = 4 ∧ (byteAt body 0).toNat ≤ 5 ∧ byteAt body 1 = 0#8 ∧ byteAt body 2 = 0#8 ∧ byteAt body 3 = 0#8

/-- The class that a body spells; a storable body has a class's code in byte 0. -/
def OpClass.spelled (body : List Byte) : OpClass := (classOf (byteAt body 0)).getD .undefined

theorem readClassRecord_eq_some_iff {body : List Byte} {c : OpClass} :
    readClassRecord body = some c ↔ OpClass.Storable body ∧ OpClass.spelled body = c := by
  rw [readClassRecord, OpClass.Storable, OpClass.spelled, ← exists_classOf_iff, Option.ite_none_right_eq_some, bytesZero_iff]
  cases classOf (byteAt body 0) <;> simp [and_assoc]

/-! ## A record's own bytes -/

theorem InitiatorRecord.flagBits : ∀ d m : Bool, let b := BitVec.ofNat 8 (1 + bitIf d 2 + bitIf m 4)
    b.getLsbD 0 = true ∧ b.getLsbD 1 = d ∧ b.getLsbD 2 = m ∧ b.toNat < 8 := by decide

theorem View.flagBits : ∀ r w c a : Bool, let b := BitVec.ofNat 8 (1 + bitIf r 2 + bitIf w 4 + bitIf c 8 + bitIf a 16)
    b.getLsbD 0 = true ∧ b.getLsbD 1 = r ∧ b.getLsbD 2 = w ∧ b.getLsbD 3 = c ∧ b.getLsbD 4 = a ∧ b.toNat < 32 := by decide

theorem readInitiatorRecord_encode {r : InitiatorRecord} (hquota : 1 ≤ r.quota ∧ r.quota ≤ 16)
    (hlease : 1 ≤ r.leaseTime ∧ r.leaseTime ≤ 600) :
    readInitiatorRecord r.encode = some (some r) := by
  obtain ⟨hvalid, hdata, hmgmt, hflags⟩ := InitiatorRecord.flagBits r.dataRight r.mgmtRight
  have hq : (byteAt r.encode 1).toNat = r.quota := toNat_byte_eq rfl (by omega)
  have hl : fieldAt r.encode 2 2 = r.leaseTime := fieldAt_eq rfl (by omega)
  have h0 : byteAt r.encode 0 = BitVec.ofNat 8 (1 + bitIf r.dataRight 2 + bitIf r.mgmtRight 4) := rfl
  rw [readInitiatorRecord_eq_some_iff, InitiatorRecord.Storable, InitiatorRecord.spelled, hq, hl, h0]
  refine ⟨⟨rfl, fun _ => ⟨hflags, hquota.1, hquota.2, hlease.1, hlease.2⟩⟩, ?_⟩
  rw [if_pos hvalid, hdata, hmgmt]

theorem readView_encode {v : View} (hvirtual : v.virtualUnit ≠ 0xFF#8) (hunit : v.unit ≠ 0xFF#8) (hextent : 1 ≤ v.extent ∧ v.extent < 2 ^ 48)
    (hwait : 1 ≤ v.holdWait ∧ v.holdWait ≤ 600) (htimeout : 1 ≤ v.timeout ∧ v.timeout ≤ 6000) : readView v.encode = some (some v) := by
  obtain ⟨hvalid, hread, hwrite, hcontrol, halert, hflags⟩ := View.flagBits v.readRight v.writeRight v.controlRight v.alertOnDeny
  have h0 : byteAt v.encode 0 = BitVec.ofNat 8 (1 + bitIf v.readRight 2 + bitIf v.writeRight 4 + bitIf v.controlRight 8
    + bitIf v.alertOnDeny 16) := rfl
  have hmode : holdModeOf (byteAt v.encode 1) = some v.holdMode := holdModeOf_code v.holdMode
  have hm : fieldAt v.encode 2 2 = v.mask.toNat := fieldAt_eq rfl v.mask.isLt
  have hb : fieldAt v.encode 8 5 = v.base.toNat := fieldAt_eq rfl v.base.isLt
  have he : fieldAt v.encode 13 6 = v.extent := fieldAt_eq rfl hextent.2
  have hw : fieldAt v.encode 20 2 = v.holdWait := fieldAt_eq rfl (by omega)
  have ht : fieldAt v.encode 22 2 = v.timeout := fieldAt_eq rfl (by omega)
  rw [readView_eq_some_iff, View.Storable, View.spelled, View.ofBytes, ← exists_holdModeOf_iff, hmode, hm, hb, he, hw, ht, h0]
  refine ⟨⟨rfl, fun _ => ⟨hflags, ⟨_, rfl⟩, hvirtual, hunit, hextent.1, rfl, hwait.1, hwait.2, htimeout.1, htimeout.2⟩⟩, ?_⟩
  rw [if_pos hvalid, hread, hwrite, hcontrol, halert, BitVec.ofNat_toNat, BitVec.ofNat_toNat, BitVec.setWidth_eq, BitVec.setWidth_eq]
  rfl

/-- The selector's two bytes: code 00h and the value, or ANY with a zero value. -/
theorem ReplyRecord.selectorBytes (r : ReplyRecord) :
    (byteAt r.encode 4 = 0x00#8 ∨ byteAt r.encode 4 = 0x01#8 ∧ byteAt r.encode 5 = 0#8)
      ∧ (if byteAt r.encode 4 = 0x00#8 then some (byteAt r.encode 5) else none) = r.selector := by
  have h4 : byteAt r.encode 4 = if r.selector.isSome then 0x00#8 else 0x01#8 := rfl
  have h5 : byteAt r.encode 5 = r.selector.getD 0#8 := rfl
  rw [h4, h5]
  cases r.selector <;> simp

theorem readReplyRecord_encode {r : ReplyRecord} (hunit : r.unit ≠ 0xFF#8) (hcode : r.code.toNat < 0xC0) (hdata : r.data.length ≤ 256) :
    readReplyRecord r.encode = some (some r) := by
  obtain ⟨hselector, hspelled⟩ := r.selectorBytes
  have hlen : fieldAt r.encode 8 2 = r.data.length := fieldAt_eq rfl (by omega)
  have htotal : r.encode.length = 12 + r.data.length := (Nat.add_comm 12 _).symm
  have h0 : byteAt r.encode 0 = 0x01#8 := rfl
  rw [readReplyRecord_eq_some_iff, ReplyRecord.Storable, ReplyRecord.InBounds, ReplyRecord.spelled, hlen, htotal, h0, hspelled]
  exact ⟨⟨by omega, hdata, rfl, fun _ => ⟨by decide, hunit, hselector, hcode, rfl, rfl, rfl⟩⟩, rfl⟩

/-! ## One record of a bank is replaced (R150) -/

/-- A reader that answers one record, where a body can be stored, puts it in its place or stores nothing. -/
theorem map_setIfInBounds_of_read {α β : Type} {n : Nat} {read : Option α} {Storable : Prop} {record : α}
    (h : ∀ {r}, read = some r ↔ Storable ∧ record = r) (table : Vector α n) (k : Fin n) (put : Vector α n → β) :
    (¬Storable → (read.map fun r => put (table.setIfInBounds k.val r)) = none)
      ∧ (Storable → ∃ w, (read.map fun r => put (table.setIfInBounds k.val r)) = some (put w) ∧ onlyReplaced table w k record) := by
  constructor
  · intro hs
    rw [Option.map_eq_none_iff, Option.eq_none_iff_forall_ne_some]
    exact fun r hr => hs (h.1 hr).1
  · intro hs
    rw [h.2 ⟨hs, rfl⟩]
    exact ⟨_, rfl, onlyReplaced_setIfInBounds table k record⟩

/-! ## The statement -/

/-- Settles O5: each reader answers the record that the body spells where check 3 of R150 passes, and nothing elsewhere; a record's own bytes pass
it and spell the record. -/
theorem policyRecordsRoundTrip : Obligations.PolicyRecordsRoundTrip := by
  refine ⟨fun r h1 h2 h3 h4 => readInitiatorRecord_encode ⟨h1, h2⟩ ⟨h3, h4⟩,
    fun v h1 h2 h3 h4 h5 h6 h7 h8 => readView_encode h1 h2 ⟨h3, h4⟩ ⟨h5, h6⟩ ⟨h7, h8⟩, fun r => readReplyRecord_encode,
    fun b body => ⟨fun n => ?initiator, fun n => ?view, fun n => ?cls, fun n => ?reply⟩⟩
  case initiator =>
    exact map_setIfInBounds_of_read readInitiatorRecord_eq_some_iff b.initiators n fun w => { b with initiators := w }
  case view =>
    obtain ⟨hnone, hsome⟩ := map_setIfInBounds_of_read (readView_eq_some_iff (body := body)) b.views n fun w => { b with views := w }
    refine ⟨hnone, fun hs => ?_⟩
    obtain ⟨w, hw, honly⟩ := hsome hs
    refine ⟨w, hw, fun hflag => ?_, fun hflag mode hmode => ?_⟩
    · have hspelled : View.spelled body = none := if_neg (Bool.eq_false_iff.1 hflag)
      rwa [hspelled] at honly
    · have hspelled : View.spelled body = some (View.ofBytes body mode) := by
        rw [View.spelled, if_pos hflag, holdModeOf_eq_some_iff.2 hmode, Option.getD_some]
      rwa [hspelled] at honly
  case cls =>
    obtain ⟨hnone, hsome⟩ := map_setIfInBounds_of_read (readClassRecord_eq_some_iff (body := body)) b.classes n fun w => { b with classes := w }
    refine ⟨hnone, fun hs => ?_⟩
    obtain ⟨w, hw, honly⟩ := hsome hs
    obtain ⟨-, hcode, -⟩ := hs
    obtain ⟨c, hc⟩ := exists_classOf_iff.2 hcode
    rw [OpClass.spelled, hc] at honly
    exact ⟨w, c, hw, honly, classOf_eq_some_iff.1 hc⟩
  case reply =>
    exact map_setIfInBounds_of_read readReplyRecord_eq_some_iff b.replies n fun w => { b with replies := w }

end Sys2Proof.Machine
end

section
/-! Frames: what the form checks let pass, and the fields of an encoded frame read back (R3, R46, R62, R85, R163; 13.1). -/

namespace Sys2Proof.Machine

/-! ## The form checks -/

theorem headerReservedZero_iff {f : List Byte} : headerReservedZero f = true ↔ (byteAt f 1).toNat % 16 = 0 := beq_iff_eq

theorem directionOf_code (d : Direction) : directionOf d.code = some d := by cases d <;> rfl

theorem isSome_directionOf_iff {b : Byte} : (directionOf b).isSome = true ↔ b.toNat ≤ 2 := by
  constructor
  · intro h
    obtain ⟨d, hd⟩ := Option.isSome_iff_exists.1 h
    unfold directionOf at hd
    split_ifs at hd with h0 h1 h2
    · rw [h0]; decide
    · rw [h1]; decide
    · rw [h2]; decide
  · intro h
    have hb : b = 0x00#8 ∨ b = 0x01#8 ∨ b = 0x02#8 := by bv_omega
    rcases hb with rfl | rfl | rfl <;> rfl

/-- The form check of a REQUEST (R46). -/
theorem requestFormOk_iff {f : List Byte} :
    requestFormOk f = true ↔ 20 ≤ f.length ∧ (byteAt f 7).toNat ≤ 32 ∧ (byteAt f 7).toNat % 4 = 0 ∧ f.length = 20 + (byteAt f 7).toNat
      ∧ (byteAt f 6).toNat ≤ 2 ∧ (byteAt f 1).toNat % 16 = 0 ∧ byteAt f 11 = 0#8 ∧ byteAt f 19 = 0#8 := by
  simp only [requestFormOk, Bool.and_eq_true, decide_eq_true_iff, isSome_directionOf_iff, headerReservedZero_iff, bytesZero_iff, and_assoc]
  simp [requestHeader, requestParamLength]

/-- The form check of a PROCEED (R62); its length has no upper bound (log entry 16). -/
theorem proceedFormOk_iff {f : List Byte} :
    proceedFormOk f = true ↔ 8 ≤ f.length ∧ 1 ≤ fieldAt f 4 3 ∧ fieldAt f 4 3 ≤ 65536 ∧ (byteAt f 1).toNat % 16 = 0
      ∧ byteAt f 7 = 0#8 := by
  simp only [proceedFormOk, Bool.and_eq_true, decide_eq_true_iff, headerReservedZero_iff, bytesZero_iff, and_assoc]
  simp [proceedWindow]

/-- The form check of a DATA (R62). -/
theorem dataFormOk_iff {f : List Byte} :
    dataFormOk f = true ↔ 12 ≤ f.length ∧ 1 ≤ fieldAt f 8 2 ∧ fieldAt f 8 2 ≤ 512 ∧ f.length = 12 + fieldAt f 8 2
      ∧ (byteAt f 1).toNat % 16 = 0 ∧ byteAt f 7 = 0#8 ∧ byteAt f 10 = 0#8 ∧ byteAt f 11 = 0#8 := by
  simp only [dataFormOk, Bool.and_eq_true, decide_eq_true_iff, headerReservedZero_iff, bytesZero_iff, and_assoc]
  simp [dataLength]

/-- The form check of a STATUS (R62). -/
theorem statusFormOk_iff {f : List Byte} :
    statusFormOk f = true ↔ 12 ≤ f.length ∧ (byteAt f 6).toNat ≤ 16 ∧ f.length = 12 + (byteAt f 6).toNat
      ∧ (byteAt f 1).toNat % 16 = 0 ∧ byteAt f 7 = 0#8 ∧ byteAt f 11 = 0#8 ∧ (byteAt f 5).toNat / 4 = 0 := by
  simp only [statusFormOk, Bool.and_eq_true, decide_eq_true_iff, headerReservedZero_iff, bytesZero_iff, and_assoc]
  simp [statusDetailLength, and_assoc]

/-- The form check of an ABORT (R85). -/
theorem abortFormOk_iff {f : List Byte} :
    abortFormOk f = true ↔ f.length = 8 ∧ (byteAt f 1).toNat % 16 = 0 ∧ byteAt f 4 = 0#8 ∧ byteAt f 5 = 0#8 ∧ byteAt f 6 = 0#8
      ∧ byteAt f 7 = 0#8 := by
  simp only [abortFormOk, Bool.and_eq_true, decide_eq_true_iff, headerReservedZero_iff, bytesZero_iff, and_assoc]
  simp

/-! ## The common header, read back (R3, R163) -/

theorem Frame.toNat_byteAt_encode_one (g : Frame) : (byteAt g.encode 1).toNat = g.initiator.val * 16 := toNat_byte_eq rfl (by omega)

theorem Frame.frameInitiator_encode (g : Frame) : frameInitiator g.encode = g.initiator := by
  rw [frameInitiator, g.toNat_byteAt_encode_one, Nat.mul_div_cancel _ (by decide)]
  exact Fin.ext (Nat.mod_eq_of_lt g.initiator.isLt)

theorem Frame.frameTag_encode (g : Frame) : frameTag g.encode = g.tag := by
  have htag : fieldAt g.encode 2 2 = g.tag.toNat := fieldAt_eq rfl g.tag.isLt
  rw [frameTag, htag, BitVec.ofNat_toNat, BitVec.setWidth_eq]

theorem Frame.reserved_encode (g : Frame) : (byteAt g.encode 1).toNat % 16 = 0 := by
  rw [g.toNat_byteAt_encode_one, Nat.mul_mod_left]

/-! ## The frames of 13.1, read back -/

section
variable {g : Frame} {unit opcode code : Byte} {d : Direction} {length count value : Nat} {block : BlockAddress} {params bytes : List Byte}
  {a b : Bool}

theorem Frame.requestFormOk_encode (hg : g.body = .request unit opcode d length block count params) (hshort : params.length ≤ 32)
    (hwords : params.length % 4 = 0) : requestFormOk g.encode = true := by
  have hparams : (byteAt g.encode 7).toNat = params.length := toNat_byte_eq (by rw [Frame.encode, hg]; rfl) (by omega)
  have hdirection : byteAt g.encode 6 = d.code := by rw [Frame.encode, hg]; rfl
  have htotal : g.encode.length = 20 + params.length := by rw [Frame.encode, hg]; exact Nat.add_comm params.length 20
  rw [requestFormOk_iff, hparams, hdirection, htotal]
  exact ⟨Nat.le_add_right .., hshort, hwords, rfl, isSome_directionOf_iff.1 (congrArg Option.isSome (directionOf_code d)), g.reserved_encode,
    by rw [Frame.encode, hg]; rfl, by rw [Frame.encode, hg]; rfl⟩

theorem Frame.readRequest_encode (hg : g.body = .request unit opcode d length block count params) (hlength : length < 2 ^ 24)
    (hcount : count < 2 ^ 16) :
    readRequest g.encode = { initiator := g.initiator, tag := g.tag, unit := unit, opcode := opcode, direction := d, length := length,
                             block := block, count := count, params := params } := by
  have hdirection : directionOf (byteAt g.encode 6) = some d := by rw [Frame.encode, hg]; exact directionOf_code d
  have hlen : requestLength g.encode = length := fieldAt_eq (by rw [Frame.encode, hg]; rfl) hlength
  have hblock : fieldAt g.encode 12 5 = block.toNat := fieldAt_eq (by rw [Frame.encode, hg]; rfl) block.isLt
  have hcnt : requestCount g.encode = count := fieldAt_eq (by rw [Frame.encode, hg]; rfl) hcount
  rw [readRequest, g.frameInitiator_encode, g.frameTag_encode, hdirection, hlen, hblock, hcnt, BitVec.ofNat_toNat, BitVec.setWidth_eq,
    Frame.encode, hg]
  rfl

theorem Frame.dataFormOk_encode (hg : g.body = .data value bytes) (hpos : 1 ≤ bytes.length) (hmax : bytes.length ≤ 512) :
    dataFormOk g.encode = true := by
  have hlen : fieldAt g.encode 8 2 = bytes.length := fieldAt_eq (by rw [Frame.encode, hg]; rfl) (by omega)
  have htotal : g.encode.length = 12 + bytes.length := by rw [Frame.encode, hg]; exact Nat.add_comm bytes.length 12
  rw [dataFormOk_iff, hlen, htotal]
  exact ⟨Nat.le_add_right .., hpos, hmax, rfl, g.reserved_encode, by rw [Frame.encode, hg]; rfl, by rw [Frame.encode, hg]; rfl,
    by rw [Frame.encode, hg]; rfl⟩

theorem Frame.dataFields_encode (hg : g.body = .data value bytes) (hoffset : value < 2 ^ 24) (hmax : bytes.length ≤ 512) :
    dataOffset g.encode = value ∧ dataLength g.encode = bytes.length ∧ dataPayload g.encode = bytes :=
  ⟨fieldAt_eq (by rw [Frame.encode, hg]; rfl) hoffset, fieldAt_eq (by rw [Frame.encode, hg]; rfl) (by omega), by rw [Frame.encode, hg]; rfl⟩

/-- A STATUS has two flags and no other bit in its flags byte. -/
theorem statusFlags_lt : ∀ a b : Bool, (statusFlags a b).toNat < 4 := by decide

theorem Frame.statusFormOk_encode (hg : g.body = .status code a b value bytes) (hmax : bytes.length ≤ 16) :
    statusFormOk g.encode = true := by
  have hlen : (byteAt g.encode 6).toNat = bytes.length := toNat_byte_eq (by rw [Frame.encode, hg]; rfl) (by omega)
  have hflags : byteAt g.encode 5 = statusFlags a b := by rw [Frame.encode, hg]; rfl
  have htotal : g.encode.length = 12 + bytes.length := by rw [Frame.encode, hg]; exact Nat.add_comm bytes.length 12
  rw [statusFormOk_iff, hlen, hflags, htotal]
  exact ⟨Nat.le_add_right .., hmax, rfl, g.reserved_encode, by rw [Frame.encode, hg]; rfl, by rw [Frame.encode, hg]; rfl,
    Nat.div_eq_of_lt (statusFlags_lt a b)⟩

theorem Frame.statusFields_encode (hg : g.body = .status code a b value bytes) (hresidue : value < 2 ^ 24) :
    statusCode g.encode = code ∧ statusResidue g.encode = value ∧ statusDetail g.encode = bytes :=
  ⟨by rw [Frame.encode, hg]; rfl, fieldAt_eq (by rw [Frame.encode, hg]; rfl) hresidue, by rw [Frame.encode, hg]; rfl⟩

end

/-! ## The statement -/

/-- Settles O4: each frame's bytes pass its form check and its fields read back; the form checks are their rules, clause by clause. -/
theorem frameFieldsRoundTrip : Obligations.FrameFieldsRoundTrip := by
  refine ⟨fun n t unit opcode d length block count params hlength hcount hshort hwords => ?request,
    fun n t value bytes code a b hvalue => ⟨fun hpos hmax => ?data, fun hmax => ?status⟩, fun f => ?checks⟩
  case request => exact ⟨Frame.requestFormOk_encode rfl hshort hwords, Frame.readRequest_encode rfl hlength hcount⟩
  case data =>
    exact ⟨Frame.dataFormOk_encode rfl hpos hmax, Frame.frameInitiator_encode _, Frame.frameTag_encode _, Frame.dataFields_encode rfl hvalue hmax⟩
  case status =>
    exact ⟨Frame.statusFormOk_encode rfl hmax, Frame.frameInitiator_encode _, Frame.frameTag_encode _, Frame.statusFields_encode rfl hvalue⟩
  case checks => exact ⟨requestFormOk_iff, proceedFormOk_iff, dataFormOk_iff, abortFormOk_iff⟩

end Sys2Proof.Machine
end

section
/-! The verdict's checks, in the order of R45's table (R46 to R56). -/

namespace Sys2Proof.Machine

/-! ## What the checks read (R15, R48 to R50) -/

theorem Entry.holdsPair_iff {e : Entry} {n : InitiatorId} {t : Tag} :
    e.holdsPair n t ↔ ∃ x, e.exchange = some x ∧ x.closed = false ∧ x.initiator = n ∧ x.tag = t := by
  simp [Entry.holdsPair, Option.any_eq_true, and_assoc]

/-- Step 4 looks for an open entry of the pair (R48). -/
theorem State.isSome_openEntry_iff {s : State} {n : InitiatorId} {t : Tag} :
    (s.openEntry n t).isSome = true ↔ ∃ i, (s.entry i).holdsPair n t := by
  constructor
  · intro h
    obtain ⟨i, hi⟩ := Option.isSome_iff_exists.1 h
    exact ⟨i, State.openEntry_some hi⟩
  · rintro ⟨i, hi⟩
    exact Option.isSome_iff_ne_none.2 fun hnone => State.openEntry_none hnone i hi

theorem State.lowestFree_eq_none {s : State} (h : ∀ i, (s.entry i).exchange ≠ none) : s.lowestFree = none :=
  find?_finRange_none (fun _ => Option.isNone_iff_eq_none) h

theorem State.lowestFree_eq_some {s : State} {i : EntryIndex} (h : (s.entry i).exchange = none)
    (hlow : ∀ j, j < i → (s.entry j).exchange ≠ none) : s.lowestFree = some i :=
  find?_finRange_first (fun _ => Option.isNone_iff_eq_none) h hlow

/-! ## Steps 2 to 5 (R47 to R49) -/

section
variable {s : State} {q : Request}

theorem State.initiatorCode_of_storageInBootstrap (hb : s.bootstrap = true) (hu : q.unit ≠ 0xFF#8) : s.initiatorCode q = some 0xC2#8 := by
  simp [State.initiatorCode, managementUnit, codeNotConfigured, hb, hu]

theorem State.initiatorCode_of_absent (hb : s.bootstrap = false) (hr : s.initiatorRecord q.initiator = none) :
    s.initiatorCode q = some 0xC3#8 := by
  simp [State.initiatorCode, codeUnknownInitiator, hb, hr]

/-- The request passes steps 2 and 3: in bootstrap it is for the management unit, outside bootstrap its initiator is present (R47, R11, R42). -/
def State.Knows (s : State) (q : Request) : Prop :=
  s.bootstrap = true ∧ q.unit = 0xFF#8 ∨ s.bootstrap = false ∧ s.initiatorRecord q.initiator ≠ none

/-- Behind steps 2 and 3, the open pair and the quota decide (R48, R49). -/
theorem State.initiatorCode_of_knows (h : s.Knows q) :
    s.initiatorCode q = if (s.openEntry q.initiator q.tag).isSome then some 0xC4#8
      else if s.quotaOf q.initiator ≤ s.inUseCount q.initiator then some 0xC5#8 else none := by
  rcases h with ⟨hb, hu⟩ | ⟨hb, hr⟩
  · simp [State.initiatorCode, managementUnit, codeTagInUse, codeQuotaReached, hb, hu]
  · simp [State.initiatorCode, codeTagInUse, codeQuotaReached, hb, hr]

end

/-! ## Steps 1 to 7 (R45 to R50) -/

section
variable {s : State} {f : List Byte}

theorem State.judge_of_malformed (h : requestFormOk f = false) : s.judge f = .refuse 0xC1#8 none := by
  simp [State.judge, codeMalformed, h]

theorem State.judge_of_initiatorCode {code : Byte} (h : requestFormOk f = true) (hc : s.initiatorCode (readRequest f) = some code) :
    s.judge f = .refuse code none := by
  simp [State.judge, h, hc]

theorem State.judge_of_full (h : requestFormOk f = true) (hc : s.initiatorCode (readRequest f) = none) (hl : s.lowestFree = none) :
    s.judge f = .refuse 0xC7#8 none := by
  simp [State.judge, codeNoEntry, h, hc, hl]

/-- Behind steps 1 to 6, the unit decides what opens the lowest FREE entry (R50). -/
theorem State.judge_of_free {i : EntryIndex} (h : requestFormOk f = true) (hc : s.initiatorCode (readRequest f) = none)
    (hl : s.lowestFree = some i) :
    s.judge f = if (readRequest f).unit = managementUnit then .manage i else s.judgeStorage i (readRequest f) := by
  simp [State.judge, h, hc, hl]

end

/-- Settles O17: the clauses follow the checks one by one. -/
theorem checksApplyInOrder : Obligations.ChecksApplyInOrder := by
  intro s f q
  refine ⟨State.judge_of_malformed, fun hform => ⟨fun hb hu => ?_, fun hb hr => ?_, fun hknown => ?_⟩⟩
  · exact State.judge_of_initiatorCode hform (State.initiatorCode_of_storageInBootstrap hb hu)
  · exact State.judge_of_initiatorCode hform (State.initiatorCode_of_absent hb hr)
  have hcode := State.initiatorCode_of_knows (q := q) hknown
  refine ⟨fun ⟨i, hpair⟩ => ?_, fun hnopair => ?_⟩
  · have hopen := State.isSome_openEntry_iff.2 ⟨i, Entry.holdsPair_iff.2 hpair⟩
    exact State.judge_of_initiatorCode hform (hcode.trans (if_pos hopen))
  have hclosed : ¬(s.openEntry q.initiator q.tag).isSome = true := fun h => not_exists.2 hnopair (State.isSome_openEntry_iff.1 h)
  rw [if_neg hclosed] at hcode
  refine ⟨fun hquota => ?_, fun hquota => ?_⟩
  · exact State.judge_of_initiatorCode hform (hcode.trans (if_pos hquota))
  have hnone := hcode.trans (if_neg (Nat.not_le.2 hquota))
  refine ⟨fun hfull => ?_, fun i hfree hlow => ?_⟩
  · exact State.judge_of_full hform hnone (State.lowestFree_eq_none hfull)
  · rw [State.judge_of_free hform hnone (State.lowestFree_eq_some hfree hlow)]
    exact ⟨fun hu => if_pos hu, fun hu => if_neg hu⟩

end Sys2Proof.Machine
end

section
/-! The steps of the verdict for a unit of storage: rights, window, hold, reply, link (R51 to R57). -/

namespace Sys2Proof.Machine

theorem OpClass.windowed_iff (c : OpClass) : c.windowed = true ↔ c = .readBlocks ∨ c = .writeBlocks := by
  simp [OpClass.windowed]

/-! ## Steps 9 to 13: the code of the first that fails (R51 to R53) -/

section
variable {s : State} {v : View} {q : Request} {c : OpClass}

theorem State.denialCode_of_undefined (hc : s.activeBank.classOf q.opcode = .undefined) : s.denialCode v q = some 0xC9#8 := by
  simp [State.denialCode, codeUnknownOp, hc]

theorem State.denialCode_of_forbidden (hc : s.activeBank.classOf q.opcode = .forbidden) : s.denialCode v q = some 0xCA#8 := by
  simp [State.denialCode, codeForbiddenOp, hc]

/-- Steps 11 to 13, for a class that is defined and not forbidden. -/
theorem State.denialCode_of_class (hc : s.activeBank.classOf q.opcode = c) (hdef : c ≠ .undefined) (hallow : c ≠ .forbidden) :
    s.denialCode v q =
      if c.permits q.direction = false then some 0xCB#8
      else if s.hasDataRight q.initiator = false ∨ v.grants c = false then some 0xCC#8
      else if (c = .readBlocks ∨ c = .writeBlocks) ∧ (q.count = 0 ∨ v.extent < q.block.toNat + q.count) then some 0xCD#8
      else if (c = .readBlocks ∨ c = .writeBlocks) ∧ q.count * v.blockSize ≠ q.length then some 0xCE#8
      else none := by
  simp [State.denialCode, codeWrongDirection, codeDenied, codeOutOfRange, codeLengthMismatch, OpClass.windowed_iff, hc, hdef, hallow]

end

/-! ## Steps 8 to 17 (R45, R51 to R57) -/

section
variable {s : State} {i : EntryIndex} {k : ViewIndex} {v : View} {q : Request}

theorem State.judgeStorage_of_noView (h : s.activeBank.matchView q.initiator q.unit = none) : s.judgeStorage i q = .refuse 0xC8#8 none := by
  simp [State.judgeStorage, codeNoView, h]

theorem State.judgeStorage_of_denied {code : Byte} (h : s.activeBank.matchView q.initiator q.unit = some (k, v))
    (hd : s.denialCode v q = some code) : s.judgeStorage i q = .refuse code (some (k, v)) := by
  simp [State.judgeStorage, h, hd]

theorem State.judgeStorage_of_granted (h : s.activeBank.matchView q.initiator q.unit = some (k, v)) (hd : s.denialCode v q = none) :
    s.judgeStorage i q = s.judgeHold i k v q := by
  simp [State.judgeStorage, h, hd]

theorem State.judgeHold_of_holds (h : v.holds (s.activeBank.classOf q.opcode) = true) :
    s.judgeHold i k v q = if s.holdQueue.length < Config.holdPlaces then .hold i k v else .refuse 0xCF#8 none := by
  simp [State.judgeHold, codeHoldFull, h]

theorem State.judgeHold_of_not_holds (h : v.holds (s.activeBank.classOf q.opcode) = false) :
    s.judgeHold i k v q = s.judgeReply i k v q := by
  simp [State.judgeHold, h]

theorem State.judgeReply_of_unmatched
    (h : s.activeBank.classOf q.opcode ≠ .query ∨ s.activeBank.matchReply v q.opcode q.params = none) :
    s.judgeReply i k v q = s.judgeLink i k v := by
  unfold State.judgeReply
  rcases h with hc | hm
  · rw [if_neg hc]
  · rw [hm, ite_self]

theorem State.judgeReply_of_matched {r : ReplyIndex} {record : ReplyRecord} (hc : s.activeBank.classOf q.opcode = .query)
    (hm : s.activeBank.matchReply v q.opcode q.params = some (r, record)) :
    s.judgeReply i k v q = if snapshotCells q record ≤ s.freeCells then .reply i k r record else s.judgeLink i k v := by
  simp [State.judgeReply, hc, hm]

theorem State.judgeLink_eq : s.judgeLink i k v = if (s.port (targetPort v.link)).state = .up then .issue i k v else .refuse 0xD0#8 none := by
  simp [State.judgeLink, codeLinkDown, State.isUp_iff]

end

/-- Settles O18: the clauses follow the steps one by one. -/
theorem storageChecksApplyInOrder : Obligations.StorageChecksApplyInOrder := by
  intro s i q
  refine ⟨State.judgeStorage_of_noView, fun k v c hview hclass => ⟨fun hc => ?_, fun hc => ?_, fun hdef hallow => ?_⟩⟩
  · exact State.judgeStorage_of_denied hview (State.denialCode_of_undefined (hclass.trans hc))
  · exact State.judgeStorage_of_denied hview (State.denialCode_of_forbidden (hclass.trans hc))
  have hcode := State.denialCode_of_class (v := v) hclass hdef hallow
  refine ⟨fun hdir => ?_, fun hdir => ⟨fun hright => ?_,
    fun hdata hgrant => ⟨fun hw hout => ?_, fun hw hcount hin hlen => ?_, fun hpass => ?_⟩⟩⟩
  · exact State.judgeStorage_of_denied hview (by rw [hcode, if_pos hdir])
  · exact State.judgeStorage_of_denied hview (by simp [hcode, hdir, hright])
  · exact State.judgeStorage_of_denied hview (by simp [hcode, hdir, hdata, hgrant, hw, hout])
  · have hinside : ¬(q.count = 0 ∨ v.extent < q.block.toNat + q.count) := by omega
    exact State.judgeStorage_of_denied hview (by simp [hcode, hdir, hdata, hgrant, hw, hinside, hlen])
  have hinside : ¬((c = .readBlocks ∨ c = .writeBlocks) ∧ (q.count = 0 ∨ v.extent < q.block.toNat + q.count)) := by
    rintro ⟨hw, hout⟩
    obtain ⟨hcount, hin, -⟩ := hpass hw
    omega
  have hlen : ¬((c = .readBlocks ∨ c = .writeBlocks) ∧ q.count * v.blockSize ≠ q.length) := by
    rintro ⟨hw, hne⟩
    obtain ⟨-, -, heq⟩ := hpass hw
    exact hne heq
  have hgranted : s.denialCode v q = none := by
    rw [hcode, if_neg (by simp [hdir]), if_neg (by simp [hdata, hgrant]), if_neg hinside, if_neg hlen]
  rw [State.judgeStorage_of_granted hview hgranted]
  refine ⟨fun hheld => State.judgeHold_of_holds (by rwa [hclass]), fun hfree => ?_⟩
  rw [State.judgeHold_of_not_holds (by rwa [hclass])]
  refine ⟨fun hnone => ?_, fun hquery r record hreply => ?_⟩
  · rw [State.judgeReply_of_unmatched (by rwa [hclass]), State.judgeLink_eq]
  · rw [State.judgeReply_of_matched (hclass.trans hquery) hreply, State.judgeLink_eq]
    rfl

end Sys2Proof.Machine
end

section
/-! A verdict carried out: the refusal, the issue, the hold, the reply (R11, R53 to R59, R93, R104). -/

namespace Sys2Proof.Machine

/-! ## What the verdict answers (R43, R45) -/

theorem exec_verdict_of_judge {s u : State} {f : List Byte} {verdict : Verdict} (hp : s.resetPin = false)
    (h : s.takeNext .admission .i = some (f, u)) (h4 : 4 ≤ f.length) (hj : u.judge f = verdict) :
    exec .verdict s = .next (u.giveVerdict f verdict).settle := by
  rw [exec_verdict hp h, State.takeRequest_of_judge h4 hj]

/-! ## Frames of the operations a verdict is made of -/

/-- An alert posted on a state that has the alerts of another. -/
theorem State.sameAlerts.posted_post {s t : State} (h : s.sameAlerts t) (a : Alert) : s.posted (t.post a) a := by
  obtain ⟨halerts, hdropped⟩ := h
  exact State.posted_of (by rw [State.post_alerts, State.post_alerts, halerts]) (by rw [State.post_dropped, State.post_dropped, halerts, hdropped])

theorem State.post_sameCore (s : State) (a : Alert) : s.sameCore (s.post a) := by
  refine ⟨?_, ?_, ⟨?_, ?_, ?_, ?_, ?_, ?_⟩, ?_, ?_, ?_, ?_, ?_, ?_, ?_⟩ <;> simp

theorem State.post_sameLists (s : State) (a : Alert) : s.sameLists (s.post a) := ⟨State.post_holdQueue .., State.post_startList ..⟩

theorem State.enqueue_sameLists (s : State) (p : Port) (d : Descriptor) : s.sameLists (s.enqueue p d) :=
  ⟨State.enqueue_holdQueue .., State.enqueue_startList ..⟩

theorem State.enqueue_sameAlerts (s : State) (p : Port) (d : Descriptor) : s.sameAlerts (s.enqueue p d) :=
  ⟨State.enqueue_alerts .., State.enqueue_dropped ..⟩

/-- A descriptor queued on a state that has the ports of another. -/
theorem State.enqueue_queuedOn_of_ports {s t : State} (h : ∀ q, t.port q = s.port q) (p : Port) (d : Descriptor) :
    s.queuedOn (t.enqueue p d) p [d] := by
  obtain ⟨hself, hother⟩ := t.enqueue_queuedOn p d
  exact ⟨by rw [hself, h], fun q hq => (hother q hq).trans (h q)⟩

theorem State.queuedOn.of_ports {s t w : State} {p : Port} {ds : List Descriptor} (h : s.queuedOn t p ds) (hw : ∀ q, w.port q = t.port q) :
    s.queuedOn w p ds := by
  obtain ⟨hself, hother⟩ := h
  exact ⟨(hw p).trans hself, fun q hq => (hw q).trans (hother q hq)⟩

/-! ## The refusal (R58, R59) -/

theorem State.refuse_eq (s : State) (f : List Byte) (code : Byte) :
    s.refuse f code = (s.release (cellsFor f.length - 1)).enqueue .i (refusalStatus f code) := rfl

theorem State.release_sameCore (s : State) (n : Nat) : s.sameCore (s.release n) := s.sameCore_refl

/-- The STATUS keeps the REQUEST's first cell; the other cells are free. -/
theorem State.refuse_freeCells {s : State} (h : (s.port .i).state = .up) (f : List Byte) (code : Byte) :
    (s.refuse f code).freeCells = s.freeCells + ((f.length + 63) / 64 - 1) := by
  rw [State.refuse_eq, State.enqueue_freeCells, State.release_port, if_pos h]
  rfl

/-- The DENIAL that a refusal against a view posts (R59). -/
def denialAlert (clock : Clock) (f : List Byte) (code : Byte) (k : ViewIndex) (w : View) : Alert :=
  { cause := .denial code, time := clock, initiator := some (frameInitiator f), tag := some (frameTag f), view := some k,
    link := some (targetPort w.link) }

theorem State.postDenial_of_view (s : State) (f : List Byte) (code : Byte) (k : ViewIndex) (w : View) :
    s.postDenial f code (some (k, w))
      = if w.alertOnDeny = true ∨ code = 0xCA#8 then s.post (denialAlert s.clock f code k w) else s := by
  simp [State.postDenial, codeForbiddenOp, denialAlert, State.alertOf]

theorem State.postDenial_eq (s : State) (f : List Byte) (code : Byte) (denial : Option (ViewIndex × View)) :
    s.postDenial f code denial = s ∨ ∃ a, s.postDenial f code denial = s.post a := by
  cases denial with
  | none => exact .inl rfl
  | some kw =>
    obtain ⟨k, w⟩ := kw
    rw [State.postDenial_of_view]
    split
    · exact .inr ⟨_, rfl⟩
    · exact .inl rfl

/-- The DENIAL touches the alerts alone. -/
theorem State.postDenial_frame (s : State) (f : List Byte) (code : Byte) (denial : Option (ViewIndex × View)) :
    let v := s.postDenial f code denial
    (∀ q, v.port q = s.port q) ∧ v.freeCells = s.freeCells ∧ s.sameEntries v ∧ s.sameLists v ∧ s.sameCore v := by
  obtain h | ⟨a, h⟩ := s.postDenial_eq f code denial <;> rw [h]
  · exact ⟨fun _ => rfl, rfl, s.sameEntries_refl, s.sameLists_refl, s.sameCore_refl⟩
  · exact ⟨s.post_port a, s.post_freeCells a, s.post_entry a, s.post_sameLists a, s.post_sameCore a⟩

/-- Settles O20: the STATUS joins port I's queue in the first cell, and behind it the DENIAL touches the alerts alone. -/
theorem refusalAnswersInFirstCell : Obligations.RefusalAnswersInFirstCell := by
  intro s u f code denial hp h h4 hj hup
  obtain ⟨hports, hcells, hentries, ⟨hhold, hstart⟩, hcore⟩ := (u.refuse f code).postDenial_frame f code denial
  refine ⟨_, exec_verdict_of_judge hp h h4 hj, ?_, ?_, ?_, ?_, ?_, ?_⟩
  · exact (State.enqueue_queuedOn_of_ports (State.release_port u _) .i (refusalStatus f code)).of_ports hports
  · exact hcells.trans (State.refuse_freeCells hup f code)
  · exact fun i => (hentries i).trans (State.enqueue_entry ..)
  · exact ⟨hhold.trans (State.enqueue_holdQueue ..), hstart.trans (State.enqueue_startList ..)⟩
  · exact ((u.release_sameCore _).trans (State.enqueue_sameCore ..)).trans hcore
  · have hsame : u.sameAlerts (u.refuse f code) := State.enqueue_sameAlerts (u.release _) ..
    cases denial with
    | none => exact hsame
    | some kw =>
      obtain ⟨k, w⟩ := kw
      have hclock : (u.refuse f code).clock = s.clock := by
        rw [State.refuse_eq, State.enqueue_clock, State.release_clock, State.takeNext_clock h]
      simp only [State.giveVerdict, State.postDenial_of_view, hclock]
      split
      · exact hsame.posted_post _
      · exact hsame

/-! ## Allocation (R11, R53) -/

theorem State.allocate_refOf (s : State) (i : EntryIndex) (x : Exchange) :
    (s.allocate i x).refOf i = { index := i, inc := (s.entry i).inc + 1 } := by
  rw [State.refOf, State.allocate_entry_self]

/-- The block address is translated for the block classes alone (R33, R53). -/
theorem State.recordedBlock_eq (s : State) (v : View) (q : Request) :
    s.recordedBlock v q = if s.activeBank.classOf q.opcode = .readBlocks ∨ s.activeBank.classOf q.opcode = .writeBlocks then v.base + q.block
      else q.block := by
  simp [State.recordedBlock, OpClass.windowed_iff]

/-! ## The issue (R57) -/

/-- The exchange that an issue opens (R11, R57). -/
def State.issuedExchange (s : State) (k : ViewIndex) (v : View) (q : Request) : Exchange :=
  { state := .issued, kind := .data, initiator := q.initiator, tag := q.tag, opcode := q.opcode, direction := q.direction, length := q.length,
    proceeded := if q.direction = .dirOut then some 0 else none, view := some k, routing := some (s.routingOf v q),
    storedRequest := some .inQueue, deadline := some { kind := .exchange, due := s.clock + BitVec.ofNat 32 (v.timeout * 10) } }

/-- An issue is an allocation and one descriptor: the rewritten REQUEST in its own cells. -/
theorem State.admitIssued_eq (s : State) (i : EntryIndex) (k : ViewIndex) (v : View) {f : List Byte} {q : Request} (hq : q = readRequest f) :
    s.admitIssued i k v f =
      (s.allocate i (s.issuedExchange k v q)).enqueue (targetPort v.link) (towardTarget { index := i, inc := (s.entry i).inc + 1 }
        (.request v.unit q.opcode q.direction q.length (s.recordedBlock v q) q.count q.params) f) := by
  simp only [State.admitIssued, State.queueRequest, State.ofEntry, State.allocate_refOf, hq]
  rfl

/-- Settles O21: an allocation, and the rewritten REQUEST at the tail of the target's queue in its own cells. -/
theorem issueQueuesRewrittenRequest : Obligations.IssueQueuesRewrittenRequest := by
  intro s u f i k w hp h h4 hj hup q c block inc
  have hblock : u.recordedBlock w q = block := State.recordedBlock_eq ..
  refine ⟨_, exec_verdict_of_judge hp h h4 hj, ?_⟩
  rw [State.giveVerdict, State.admitIssued_eq u i k w (q := q) rfl, hblock]
  refine ⟨?_, fun j hne => ?_, State.enqueue_sameLists .., (u.allocate_sameCore ..).trans (State.enqueue_sameCore ..),
    State.enqueue_sameAlerts .., ?_, State.enqueue_queuedOn_of_ports (u.allocate_port i _) ..⟩
  · rw [State.enqueue_entry, State.allocate_entry_self, State.issuedExchange, State.routingOf, hblock, State.takeNext_clock h]
  · exact (State.enqueue_entry ..).trans (State.allocate_entry_ne _ _ hne)
  · rw [State.enqueue_freeCells, State.allocate_port, if_pos hup]
    rfl

/-! ## The hold (R54, R93) -/

/-- The exchange that a hold opens: the request as it came, in its cells (R11, R54). -/
def State.holdingExchange (s : State) (k : ViewIndex) (v : View) (f : List Byte) : Exchange :=
  let q := readRequest f
  { state := .held, kind := .data, initiator := q.initiator, tag := q.tag, opcode := q.opcode, direction := q.direction, length := q.length,
    proceeded := if q.direction = .dirOut then some 0 else none, view := some k, routing := some (s.routingOf v q),
    storedRequest := some (.inCells f), deadline := some { kind := .hold, due := s.clock + BitVec.ofNat 32 (v.holdWait * 100) } }

/-- The HOLD_ARRIVAL of a request (R93). -/
def State.arrivalAlert (s : State) (r : EntryRef) (k : ViewIndex) (v : View) (q : Request) : Alert :=
  { cause := .holdArrival, time := s.clock, entry := some r, initiator := some q.initiator, tag := some q.tag, view := some k,
    link := some (targetPort v.link), request := some { opcode := q.opcode, block := s.recordedBlock v q, count := q.count } }

/-- A hold is an allocation, a place at the tail of the hold queue, and one alert. -/
theorem State.admitHeld_eq (s : State) {i : EntryIndex} (k : ViewIndex) (v : View) (f : List Byte) {r : EntryRef}
    (hr : r = { index := i, inc := (s.entry i).inc + 1 }) :
    s.admitHeld i k v f =
      ({ s.allocate i (s.holdingExchange k v f) with holdQueue := s.holdQueue ++ [{ entry := r, timeoutMs := v.timeout * 10 }] } : State).post
        (s.arrivalAlert r k v (readRequest f)) := by
  simp only [State.admitHeld, State.allocate_refOf, hr]
  rfl

/-- Settles O22: an allocation, a place at the tail of the hold queue, and HOLD_ARRIVAL. -/
theorem holdQueuesPlaceAndAlert : Obligations.HoldQueuesPlaceAndAlert := by
  intro s u f i k w hp h h4 hj q c block r
  have hblock : u.recordedBlock w q = block := State.recordedBlock_eq ..
  refine ⟨_, exec_verdict_of_judge hp h h4 hj, ?_⟩
  rw [State.giveVerdict, u.admitHeld_eq k w f (r := r) rfl]
  refine ⟨?_, fun j hne => ?_, State.post_holdQueue .., State.post_startList .., fun p => ?_, ?_, State.post_freeCells .., ?_⟩
  · rw [State.post_entry]
    refine (u.allocate_entry_self i _).trans ?_
    rw [State.holdingExchange, State.routingOf, hblock, State.takeNext_clock h]
  · exact (State.post_entry ..).trans (u.allocate_entry_ne _ hne)
  · exact (State.post_port ..).trans (u.allocate_port i (u.holdingExchange k w f) p)
  · exact (u.allocate_sameCore i (u.holdingExchange k w f)).trans (State.post_sameCore ..)
  · rw [State.arrivalAlert, hblock, State.takeNext_clock h]
    refine State.sameAlerts.posted_post ?_ _
    exact ⟨rfl, rfl⟩

/-! ## The reply (R55, R104) -/

section
variable {s : State} {i j : EntryIndex} {k l : ViewIndex} {v : View} {q : Request} {r : ReplyIndex} {record : ReplyRecord}

theorem State.judgeLink_ne_reply : s.judgeLink i k v ≠ .reply j l r record := by
  rw [State.judgeLink_eq]
  split <;> nofun

/-- Step 15 replies only where the snapshot's cells are free (R55). -/
theorem State.judgeReply_snapshotCells (h : s.judgeReply i k v q = .reply j l r record) : snapshotCells q record ≤ s.freeCells := by
  unfold State.judgeReply at h
  split at h
  · split at h
    · split at h
      · next hcells => cases h; exact hcells
      · exact absurd h State.judgeLink_ne_reply
    · exact absurd h State.judgeLink_ne_reply
  · exact absurd h State.judgeLink_ne_reply

theorem State.judgeHold_snapshotCells (h : s.judgeHold i k v q = .reply j l r record) : snapshotCells q record ≤ s.freeCells := by
  unfold State.judgeHold at h
  split at h
  · split at h <;> cases h
  · exact State.judgeReply_snapshotCells h

theorem State.judgeStorage_snapshotCells (h : s.judgeStorage i q = .reply j l r record) : snapshotCells q record ≤ s.freeCells := by
  unfold State.judgeStorage at h
  split at h
  · cases h
  · split at h
    · cases h
    · exact State.judgeHold_snapshotCells h

theorem State.judge_snapshotCells {f : List Byte} (h : s.judge f = .reply j l r record) :
    snapshotCells (readRequest f) record ≤ s.freeCells := by
  simp only [State.judge] at h
  split at h
  · cases h
  · split at h
    · cases h
    · split at h
      · cases h
      · split at h
        · cases h
        · exact State.judgeStorage_snapshotCells h

end

/-- The exchange that a reply opens, with its snapshot (R11, R104). -/
def answeringExchange (k : ViewIndex) (r : ReplyIndex) (record : ReplyRecord) (q : Request) : Exchange :=
  { state := .replying, kind := .queryReply, initiator := q.initiator, tag := q.tag, opcode := q.opcode, direction := q.direction,
    length := q.length, proceeded := if q.direction = .dirOut then some 0 else none, view := some k, replyRecord := some r,
    snapshot := some { code := record.code, data := record.data.take (snapshotLength q record), started := false } }

/-- A reply exchanges the request's cells for the snapshot's, allocates, and puts a place at the tail of the start list (log entry 30). -/
theorem State.admitReply_eq (s : State) (i : EntryIndex) (k : ViewIndex) (r : ReplyIndex) (record : ReplyRecord) (f : List Byte) :
    s.admitReply i k r record f =
      { ((s.takeCells (snapshotCells (readRequest f) record)).discard f).allocate i (answeringExchange k r record (readRequest f)) with
        startList := s.startList.filter (fun a => a.index ≠ i) ++ [{ index := i, inc := (s.entry i).inc + 1 }] } := by
  simp only [State.admitReply, State.allocate_refOf]
  rfl

/-- Settles O23: the snapshot takes its cells, the request's return, and the place joins the tail of the start list. -/
theorem replyTakesSnapshot : Obligations.ReplyTakesSnapshot := by
  intro s u f i k r record hp h h4 hj q n
  refine ⟨_, exec_verdict_of_judge hp h h4 hj, ?_⟩
  rw [State.giveVerdict, State.admitReply_eq]
  let paid := (u.takeCells (snapshotCells q record)).discard f
  let x := answeringExchange k r record q
  have hport : ∀ p, paid.port p = u.port p := fun p => (State.discard_port ..).trans (State.takeCells_port ..)
  refine ⟨paid.allocate_entry_self i x, fun j hne => paid.allocate_entry_ne x hne, rfl, rfl, fun p => (paid.allocate_port i x p).trans (hport p),
    paid.allocate_sameCore i x, ⟨rfl, rfl⟩, ?_⟩
  have hcells : snapshotCells q record ≤ u.freeCells := State.judge_snapshotCells hj
  have hpaid : u.freeCells - snapshotCells q record + cellsFor f.length + snapshotCells q record = u.freeCells + cellsFor f.length := by omega
  exact hpaid

end Sys2Proof.Machine
end

section
/-! How an exchange goes on or ends when one descriptor is queued for it, and what a phase violation leaves (R14, R19, R69 to R71). -/

namespace Sys2Proof.Machine

/-! ## Sameness across two states -/

theorem State.sameLists.trans {s t u : State} (h : s.sameLists t) (k : t.sameLists u) : s.sameLists u :=
  ⟨k.1.trans h.1, k.2.trans h.2⟩

theorem State.sameAlerts.trans {s t u : State} (h : s.sameAlerts t) (k : t.sameAlerts u) : s.sameAlerts u :=
  ⟨k.1.trans h.1, k.2.trans h.2⟩

/-! ## An exchange goes on -/

/-- Entry i goes on with the exchange `y`, and `d` has joined port p's queue; no cell is free that was not, and nothing else has changed. -/
structure State.GoesOn (s t : State) (i : EntryIndex) (y : Exchange) (p : Port) (d : Descriptor) : Prop where
  entry : t.entry i = { s.entry i with exchange := some y }
  others : s.sameEntriesBut t i
  lists : s.sameLists t
  core : s.sameCore t
  alerts : s.sameAlerts t
  cells : t.freeCells = s.freeCells
  queued : s.queuedOn t p [d]

/-- An entry takes a new record of its exchange, and a descriptor is queued that keeps its cells, if it has any, on a port in UP. -/
theorem State.setExchange_enqueue_goesOn {s : State} {p : Port} {d : Descriptor} (h : (s.port p).state = .up ∨ d.cells = 0) (i : EntryIndex)
    (y : Exchange) : s.GoesOn ((s.setExchange i y).enqueue p d) i y p d where
  entry := (State.enqueue_entry ..).trans (State.setExchange_entry_self ..)
  others _ hj := (State.enqueue_entry ..).trans (State.setExchange_entry_ne _ _ hj)
  lists := State.enqueue_sameLists (s.setExchange i y) p d
  core := (s.setExchange_sameCore i y).trans (State.enqueue_sameCore ..)
  alerts := State.enqueue_sameAlerts (s.setExchange i y) p d
  cells := by
    rw [State.enqueue_freeCells, State.setExchange_port]
    obtain h | h := h <;> simp [h]
  queued := State.enqueue_queuedOn_of_ports (State.setExchange_port s i y) p d

/-! ## An exchange ends -/

/-- `d` has joined port p's queue, and entry i, in use with `x`, is free with its cells; nothing else has changed. -/
structure State.EndsWith (s t : State) (i : EntryIndex) (x : Exchange) (p : Port) (d : Descriptor) : Prop where
  freed : s.freed t i
  core : s.sameCore t
  alerts : s.sameAlerts t
  cells : t.freeCells = s.freeCells + x.ownCells
  queued : s.queuedOn t p [d]

/-- A descriptor is queued for an exchange, and its entry is freed. -/
theorem State.enqueue_freeEntry_endsWith {s : State} {i : EntryIndex} {x : Exchange} (hx : (s.entry i).exchange = some x) {p : Port}
    {d : Descriptor} (h : (s.port p).state = .up ∨ d.cells = 0) : s.EndsWith ((s.enqueue p d).freeEntry i) i x p d := by
  have hentry := fun j => State.enqueue_entry s p d j
  obtain ⟨hi, hothers, hhold, hstart⟩ := State.freeEntry_freed (s := s.enqueue p d) (x := x) (by rw [hentry, hx])
  refine ⟨⟨hi.trans (by rw [hentry]), fun j hj => (hothers j hj).trans (hentry j), hhold.trans (by rw [State.enqueue_holdQueue]),
    hstart.trans (State.enqueue_startList ..)⟩, (s.enqueue_sameCore p d).trans (State.freeEntry_sameCore ..), ?_, ?_,
    (s.enqueue_queuedOn p d).of_ports (State.freeEntry_port _ i)⟩
  · exact ⟨(State.freeEntry_alerts ..).trans (State.enqueue_alerts ..), (State.freeEntry_dropped ..).trans (State.enqueue_dropped ..)⟩
  · rw [State.freeEntry_freeCells, State.enqueue_freeCells, hentry]
    obtain h | h := h <;> simp [h, Entry.cells, hx]

/-- What is freed after its exchange took a new record is freed. -/
theorem State.freed.of_setExchange {s t : State} {i : EntryIndex} {y : Exchange} (h : (s.setExchange i y).freed t i) : s.freed t i := by
  obtain ⟨hi, hothers, hhold, hstart⟩ := h
  exact ⟨hi.trans (by rw [State.setExchange_entry_self]), fun j hj => (hothers j hj).trans (State.setExchange_entry_ne _ _ hj), hhold, hstart⟩

theorem State.EndsWith.of_setExchange {s t : State} {i : EntryIndex} {x y : Exchange} {p : Port} {d : Descriptor}
    (h : (s.setExchange i y).EndsWith t i x p d) : s.EndsWith t i x p d where
  freed := h.freed.of_setExchange
  core := (s.setExchange_sameCore i y).trans h.core
  alerts := h.alerts
  cells := h.cells
  queued := ⟨h.queued.1.trans (by rw [State.setExchange_port]), fun q hq => (h.queued.2 q hq).trans (State.setExchange_port ..)⟩

theorem State.setExchange_refOf (s : State) (i j : EntryIndex) (y : Exchange) : (s.setExchange i y).refOf j = s.refOf j := by
  rw [State.refOf, State.setExchange_entry_inc]; rfl

/-- The exchange closes with a STATUS of the bridge on port I. -/
theorem State.closeAndFree_endsWith {s : State} {i : EntryIndex} {x y : Exchange} (hx : (s.entry i).exchange = some x) (code : Byte) :
    s.EndsWith (s.closeAndFree i y code) i x .i (bridgeStatus (s.refOf i) y code) :=
  State.enqueue_freeEntry_endsWith hx (.inr rfl)

/-- A management exchange closes as any other when its STATUS is not the one that a warm reset waits for (R140, R147). -/
theorem State.closeManagement_unmarked (s : State) (i : EntryIndex) (x : Exchange) (code : Byte) :
    s.closeManagement i x code false = s.closeAndFree i x code := rfl

/-- RESIDUE_ADJUSTED as R68 words it. -/
theorem residueAdjusted_eq (x : Exchange) (n : Nat) : residueAdjusted x n = (n != x.length - x.moved) := by
  by_cases h : n = x.length - x.moved <;> simp [residueAdjusted, Exchange.residue, h]

theorem State.ofEntry_forwardedStatus (s : State) (i : EntryIndex) (x : Exchange) (k : ParkedStatus) :
    s.ofEntry i (.stored (forwardedStatus x k) k.cells) = targetStatus (s.refOf i) x k := by
  simp only [State.ofEntry, forwardedStatus, targetStatus, residueAdjusted_eq, Exchange.residue]

/-- A target's STATUS goes to port I in its own cells, which the entry no longer holds. -/
theorem State.deliverStatus_endsWith {s : State} (hup : (s.port .i).state = .up) (i : EntryIndex) (x : Exchange) (k : ParkedStatus) :
    s.EndsWith (s.deliverStatus i x k) i { x with parked := none } .i (targetStatus (s.refOf i) x k) := by
  unfold State.deliverStatus
  rw [State.ofEntry_forwardedStatus]
  refine (State.enqueue_freeEntry_endsWith ?_ (.inl ?_)).of_setExchange
  · rw [State.setExchange_entry_self]
  · rw [State.setExchange_port, hup]

/-- Of the cells of an entry, its parked STATUS has its own. -/
theorem Exchange.ownCells_of_parked {x : Exchange} {k : ParkedStatus} (h : x.parked = some k) :
    ({ x with parked := none } : Exchange).ownCells + k.cells = x.ownCells := by
  simp only [Exchange.ownCells, h]
  omega

/-! ## A phase violation (R70, R71) -/

/-- An alert posted at its end changes nothing of how an exchange ended. -/
theorem State.endedWith.post {s t : State} {i : EntryIndex} {x : Exchange} {o : AbortOrigin} {code : Byte} {n : Nat}
    (h : s.endedWith t i x o code n) (a : Alert) : s.endedWith (t.post a) i x o code n := by
  refine ⟨fun g hg hw => ?_, fun hw => ?_⟩
  · obtain ⟨hi, hothers, hlists, hcore, hcells, hI, hT, hports⟩ := h.1 g hg hw
    exact ⟨(t.post_entry a i).trans hi, fun j hj => (t.post_entry a j).trans (hothers j hj), hlists.trans (t.post_sameLists a),
      hcore.trans (t.post_sameCore a), (t.post_freeCells a).trans hcells, (t.post_port a _).trans hI, (t.post_port a _).trans hT,
      fun q h1 h2 => (t.post_port a q).trans (hports q h1 h2)⟩
  · obtain ⟨⟨hi, hothers, hhold, hstart⟩, hcore, ⟨hI, hT⟩, hcells⟩ := h.2 hw
    exact ⟨⟨(t.post_entry a i).trans hi, fun j hj => (t.post_entry a j).trans (hothers j hj), (t.post_holdQueue a).trans hhold,
      (t.post_startList a).trans hstart⟩, hcore.trans (t.post_sameCore a),
      ⟨(t.post_port a _).trans hI, fun q => (t.post_port a _).trans (hT q)⟩, (t.post_freeCells a).trans hcells⟩

/-- The frame that brought the end about was discarded first: its cells are back as well. -/
theorem State.endedWith.of_discard {s t : State} {f : List Byte} {i : EntryIndex} {x : Exchange} {o : AbortOrigin} {code : Byte}
    (h : (s.discard f).endedWith t i x o code 0) : s.endedWith t i x o code ((f.length + 63) / 64) := h

theorem State.endWithStatus_sameAlerts (s : State) (i : EntryIndex) (x : Exchange) (code : Byte) (o : AbortOrigin) :
    s.sameAlerts (s.endWithStatus i x code o) := by
  unfold State.endWithStatus
  split
  · constructor <;> simp [State.queueStatus, State.enterAborting]
  · unfold State.closeAndFree State.queueStatus State.withdrawUnseen State.withdrawRequest
    split <;> constructor <;> simp

/-- A frame that violates the phase is discarded, the exchange it matched ends with D4h, and the alert names its detail. -/
theorem State.discard_phaseViolation_violated {s : State} {i : EntryIndex} {x : Exchange} (hx : (s.entry i).exchange = some x) (f : List Byte)
    (d : ViolationDetail) : s.violated ((s.discard f).phaseViolation i x d) i x d f := by
  have hends := State.endWithStatus_endedWith (s := s.discard f) (by rw [State.discard_entry, hx]) codePhaseError .phase
  exact ⟨hends.of_discard.post _, State.sameAlerts.posted_post ((s.discard f).endWithStatus_sameAlerts i x codePhaseError .phase) _⟩

end Sys2Proof.Machine
end

section
/-! A target's PROCEED, DATA and STATUS on an exchange in ISSUED or MOVING (R62, R63, R65, R68 to R70). -/

namespace Sys2Proof.Machine

/-! ## The frame that matched is given to its rule -/

section
variable {s u : State} {t : Target} {f : List Byte} {i : EntryIndex} {x : Exchange} {g : Routing}

/-- The event of a target's frame that matches, by the rule of its kind. -/
theorem event_of_matched {k : Byte} {rule : State → List Byte → EntryIndex → Exchange → Routing → State}
    (h : s.taking (targetPort t) k f u) (hm : u.matchTarget t f = .matched i x g) :
    event (fun s => (s.takeKind (targetPort t) k).map fun (f, u) => u.takeTargetFrame t f (rule u f)) s = .next (rule u f i x g).settle := by
  obtain ⟨hp, htake, h4⟩ := h
  refine event_occurs hp ?_
  rw [htake]
  exact congrArg some (State.takeTargetFrame_of_matched h4 hm)

theorem exec_targetProceed (h : s.taking (targetPort t) 0x02#8 f u) (hm : u.matchTarget t f = .matched i x g) :
    exec (.targetProceed t) s = .next (u.proceedRule t f i x g).settle :=
  event_of_matched (rule := fun u f => u.proceedRule t f) h hm

theorem exec_targetData (h : s.taking (targetPort t) 0x03#8 f u) (hm : u.matchTarget t f = .matched i x g) :
    exec (.targetData t) s = .next (u.targetDataRule t f i x g).settle :=
  event_of_matched (rule := fun u f => u.targetDataRule t f) h hm

theorem exec_targetStatus (h : s.taking (targetPort t) 0x04#8 f u) (hm : u.matchTarget t f = .matched i x g) :
    exec (.targetStatus t) s = .next (u.statusRule t f i x g).settle :=
  event_of_matched (rule := fun u f => u.statusRule t f) h hm

/-- A frame that matches in ISSUED or MOVING comes from the target that the entry's exchange awaits. -/
theorem State.matchesOpen.inUse_awaiting (h : u.matchesOpen t f i x g) :
    (u.entry i).exchange = some x ∧ x.state ≠ .aborting ∧ x.routing = some g ∧ x.awaitsTarget := by
  obtain ⟨hm, hs, hk⟩ := h
  obtain ⟨-, -, -, hx, -, hg, -, hsent⟩ := State.matchTarget_eq_matched.1 hm
  exact ⟨hx, by obtain hs | hs := hs <;> simp [hs], hg, by simp [hg, hsent], hk⟩

/-! ## The rules in ISSUED and MOVING -/

theorem State.proceedRule_of_accepted (ha : x.state ≠ .aborting) (hk : x.parked = none) (hv : proceedViolation x f = none) :
    u.proceedRule t f i x g = u.acceptProceed i x f := by
  simp [State.proceedRule, hk, ha, hv]

theorem State.proceedRule_of_violation {d : ViolationDetail} (ha : x.state ≠ .aborting) (hk : x.parked = none)
    (hv : proceedViolation x f = some d) : u.proceedRule t f i x g = (u.discard f).phaseViolation i x d := by
  simp [State.proceedRule, hk, ha, hv]

theorem State.targetDataRule_of_accepted (ha : x.state ≠ .aborting) (hk : x.parked = none) (hv : targetDataViolation x f = none) :
    u.targetDataRule t f i x g = u.acceptTargetData i x f := by
  simp [State.targetDataRule, hk, ha, hv]

theorem State.targetDataRule_of_violation {d : ViolationDetail} (ha : x.state ≠ .aborting) (hk : x.parked = none)
    (hv : targetDataViolation x f = some d) : u.targetDataRule t f i x g = (u.discard f).phaseViolation i x d := by
  simp [State.targetDataRule, hk, ha, hv]

theorem State.statusRule_of_accepted (ha : x.state ≠ .aborting) (hk : x.parked = none) (hf : statusFormOk f = true) :
    u.statusRule t f i x g = u.acceptStatus i x (readStatus f) := by
  simp [State.statusRule, hk, ha, hf]

theorem State.statusRule_of_violation (ha : x.state ≠ .aborting) (hk : x.parked = none) (hf : statusFormOk f = false) :
    u.statusRule t f i x g = (u.discard f).phaseViolation i x .form := by
  simp [State.statusRule, hk, ha, hf]

end

/-! ## The detail of the first check that fails (R62, R63, R65; log entry 31) -/

theorem proceedViolation_eq_some {x : Exchange} {f : List Byte} {d : ViolationDetail}
    (h : proceedFormOk f = false ∧ d = .form
      ∨ proceedFormOk f = true ∧ x.direction ≠ .dirOut ∧ d = .direction
      ∨ proceedFormOk f = true ∧ x.direction = .dirOut ∧ x.length < x.proceeded.getD 0 + proceedWindow f ∧ d = .overLength) :
    proceedViolation x f = some d := by
  obtain ⟨hf, rfl⟩ | ⟨hf, hd, rfl⟩ | ⟨hf, hd, hl, rfl⟩ := h
  · simp [proceedViolation, hf]
  · simp [proceedViolation, hf, hd]
  · simp [proceedViolation, hf, hd, hl]

theorem targetDataViolation_eq_some {x : Exchange} {f : List Byte} {d : ViolationDetail}
    (h : dataFormOk f = false ∧ d = .form
      ∨ dataFormOk f = true ∧ x.direction ≠ .dirIn ∧ d = .direction
      ∨ dataFormOk f = true ∧ x.direction = .dirIn ∧ dataOffset f ≠ x.moved ∧ d = .offset
      ∨ dataFormOk f = true ∧ x.direction = .dirIn ∧ dataOffset f = x.moved ∧ x.length < x.moved + dataLength f ∧ d = .overLength) :
    targetDataViolation x f = some d := by
  obtain ⟨hf, rfl⟩ | ⟨hf, hd, rfl⟩ | ⟨hf, hd, ho, rfl⟩ | ⟨hf, hd, ho, hl, rfl⟩ := h
  · simp [targetDataViolation, hf]
  · simp [targetDataViolation, hf, hd]
  · simp [targetDataViolation, hf, hd, ho]
  · simp [targetDataViolation, hf, hd, ho, hl]

/-! ## The statements -/

/-- Settles O28: an accepted frame is one new record of its entry and one descriptor on port I, in the frame's own cells. -/
theorem proceedAndDataAreForwarded : Obligations.ProceedAndDataAreForwarded := by
  refine ⟨fun s u t f i x g p h ho hf hd hp hl hup => ?_, fun s u t f i x g h ho hf hd hoff hl hup => ?_⟩
  · obtain ⟨-, ha, -⟩ := ho.inUse_awaiting
    obtain ⟨hm, -, hk⟩ := ho
    have hp' : x.proceeded.getD 0 = p := by simp [hp]
    have hv : proceedViolation x f = none := proceedViolation_eq_none.2 ⟨hf, hd, by rw [hp']; exact hl⟩
    have hgoes := State.setExchange_enqueue_goesOn (d := forwarded (u.refOf i) x (.proceed (proceedWindow f)) f) (.inl hup) i
      { x with state := .moving, proceeded := some (p + proceedWindow f) }
    refine ⟨u.acceptProceed i x f, ?_, ?_⟩
    · rw [exec_targetProceed h hm, State.proceedRule_of_accepted ha hk hv]
    · rw [State.acceptProceed, hp']
      exact ⟨hgoes.entry, hgoes.others, hgoes.lists, hgoes.core, hgoes.alerts, hgoes.cells, hgoes.queued⟩
  · obtain ⟨-, ha, -⟩ := ho.inUse_awaiting
    obtain ⟨hm, -, hk⟩ := ho
    have hgoes := State.setExchange_enqueue_goesOn (d := forwarded (u.refOf i) x (.data (dataOffset f) (dataPayload f)) f) (.inl hup) i
      { x with state := .moving, moved := x.moved + dataLength f, dataWaiting := x.dataWaiting + 1 }
    refine ⟨u.acceptTargetData i x f, ?_, hgoes.entry, hgoes.others, hgoes.lists, hgoes.core, hgoes.alerts, hgoes.cells, hgoes.queued⟩
    rw [exec_targetData h hm, State.targetDataRule_of_accepted ha hk (targetDataViolation_eq_none.2 ⟨hf, hd, hoff, hl⟩)]

/-- A STATUS parked behind waiting DATA changes the entry alone (R69). -/
theorem State.acceptStatus_of_waiting {x : Exchange} (s : State) (i : EntryIndex) (h : 0 < x.dataWaiting) (k : ParkedStatus) :
    s.acceptStatus i x k = s.setExchange i { x with deadline := none, parked := some k } :=
  if_neg (Nat.ne_of_gt h)

theorem State.acceptStatus_of_none_waiting {x : Exchange} (s : State) (i : EntryIndex) (h : x.dataWaiting = 0) (k : ParkedStatus) :
    s.acceptStatus i x k = s.deliverStatus i x k :=
  if_pos h

/-- Settles O29: by the DATA that waits, the STATUS is delivered at once, or parked on its entry. -/
theorem statusIsForwardedOrParked : Obligations.StatusIsForwardedOrParked := by
  intro s u t f i x g h ho hf hup
  obtain ⟨hx, ha, -⟩ := ho.inUse_awaiting
  obtain ⟨hm, -, hk⟩ := ho
  refine ⟨u.acceptStatus i x (readStatus f), by rw [exec_targetStatus h hm, State.statusRule_of_accepted ha hk hf], ?_⟩
  by_cases hw : x.dataWaiting = 0
  · have hends := State.deliverStatus_endsWith hup i x (readStatus f)
    rw [show ({ x with parked := none } : Exchange) = x by rw [← hk]] at hends
    rw [State.acceptStatus_of_none_waiting u i hw]
    exact ⟨hends.core, hends.alerts, fun _ => ⟨hends.freed, hends.cells, hends.queued⟩, fun hpos => absurd hw (Nat.ne_of_gt hpos)⟩
  · rw [State.acceptStatus_of_waiting u i (Nat.pos_of_ne_zero hw)]
    exact ⟨u.setExchange_sameCore .., ⟨rfl, rfl⟩, fun hzero => absurd hzero hw,
      fun _ => ⟨State.setExchange_entry_self .., fun j hj => State.setExchange_entry_ne _ _ hj, ⟨rfl, rfl⟩, u.setExchange_port i _, rfl⟩⟩

/-- Settles O32: whichever check fails, the frame is discarded and the exchange, whose target may still act, ends with an abort. -/
theorem targetViolationsEndExchange : Obligations.TargetViolationsEndExchange := by
  intro s u t f i x g d k c hc h ho hd
  obtain ⟨hx, ha, hg, hw⟩ := ho.inUse_awaiting
  obtain ⟨hm, -, hk⟩ := ho
  have hexec : exec c s = .next ((u.discard f).phaseViolation i x d).settle := by
    simp only [targetFrames, List.mem_cons, List.not_mem_nil, or_false, Prod.mk.injEq] at hc
    obtain ⟨rfl, hd⟩ | ⟨rfl, hd⟩ | ⟨rfl, hf, rfl⟩ := hd
    · obtain rfl : c = .targetProceed t := by simpa using hc
      rw [exec_targetProceed h hm, State.proceedRule_of_violation ha hk (proceedViolation_eq_some hd)]
    · obtain rfl : c = .targetData t := by simpa using hc
      rw [exec_targetData h hm, State.targetDataRule_of_violation ha hk (targetDataViolation_eq_some hd)]
    · obtain rfl : c = .targetStatus t := by simpa using hc
      rw [exec_targetStatus h hm, State.statusRule_of_violation ha hk hf]
  have hviolated := State.discard_phaseViolation_violated hx f d
  exact ⟨_, hexec, hviolated, hviolated.1.1 g hg hw⟩

end Sys2Proof.Machine
end

section
/-! DATA of an initiator: forwarded to its target, or the end of its exchange (R62, R64, R66, R69 to R71, R137). -/

namespace Sys2Proof.Machine

/-! ## The rule of the entry that the DATA matched -/

section
variable {s u : State} {f : List Byte} {i : EntryIndex} {x : Exchange}

theorem exec_initiatorData_of_matched (h : s.taking .i 0x03#8 f u) (hm : u.matchInitiator f = some (i, x)) :
    exec .initiatorData s = .next (u.initiatorDataRule i x f).settle := by
  obtain ⟨hp, htake, h4⟩ := h
  rw [exec_initiatorData hp htake, State.takeInitiatorData_of_matched h4 hm]

theorem State.initiatorDataRule_of_moving {g : Routing} (hk : x.parked = none) (hs : x.state = .issued ∨ x.state = .moving)
    (hg : x.routing = some g) : u.initiatorDataRule i x f = u.movingRule i x g f := by
  obtain hs | hs := hs <;> simp [State.initiatorDataRule, hk, hs, hg]

theorem State.initiatorDataRule_of_mgmtBody (hk : x.parked = none) (hs : x.state = .mgmtBody) :
    u.initiatorDataRule i x f = u.bodyRule i x f := by
  simp [State.initiatorDataRule, hk, hs]

/-- After its target's STATUS, and in REPLYING or MGMT_ANSWER, an exchange takes no DATA (R66, R69). -/
theorem State.initiatorDataRule_of_unwanted (h : x.parked ≠ none ∨ x.state = .replying ∨ x.state = .mgmtAnswer) :
    u.initiatorDataRule i x f = (u.discard f).phaseViolation i x (unwantedViolation f) := by
  unfold State.initiatorDataRule
  split
  · rfl
  · next hk =>
    have hnone : x.parked = none := Option.not_isSome_iff_eq_none.1 hk
    obtain h | h | h := h
    · exact absurd hnone h
    · rw [h]
    · rw [h]

end

/-! ## The detail of the first check that fails (R62, R64, R66, R137; log entries 20 and 31) -/

theorem windowViolation_of_offset {x : Exchange} {f : List Byte} (h : dataOffset f ≠ x.moved) : windowViolation x f = some .offset := by
  simp [windowViolation, h]

theorem windowViolation_of_overWindow {x : Exchange} {f : List Byte} (ho : dataOffset f = x.moved)
    (h : x.proceeded.getD 0 < x.moved + dataLength f) : windowViolation x f = some .overWindow := by
  simp [windowViolation, ho, h]

theorem initiatorDataViolation_eq_some {x : Exchange} {f : List Byte} {d : ViolationDetail}
    (h : dataFormOk f = false ∧ d = .form
      ∨ dataFormOk f = true ∧ x.direction ≠ .dirOut ∧ d = .direction
      ∨ dataFormOk f = true ∧ x.direction = .dirOut ∧ dataOffset f ≠ x.moved ∧ d = .offset
      ∨ dataFormOk f = true ∧ x.direction = .dirOut ∧ dataOffset f = x.moved ∧ x.proceeded.getD 0 < x.moved + dataLength f
        ∧ d = .overWindow) :
    initiatorDataViolation x f = some d := by
  obtain ⟨hf, rfl⟩ | ⟨hf, hd, rfl⟩ | ⟨hf, hd, ho, rfl⟩ | ⟨hf, hd, ho, hw, rfl⟩ := h
  · simp [initiatorDataViolation, hf]
  · simp [initiatorDataViolation, hf, hd]
  · simp [initiatorDataViolation, hf, hd, windowViolation_of_offset ho]
  · simp [initiatorDataViolation, hf, hd, windowViolation_of_overWindow ho hw]

theorem bodyViolation_eq_some {x : Exchange} {f : List Byte} {d : ViolationDetail}
    (h : dataFormOk f = false ∧ d = .form
      ∨ dataFormOk f = true ∧ dataOffset f ≠ x.moved ∧ d = .offset
      ∨ dataFormOk f = true ∧ dataOffset f = x.moved ∧ x.proceeded.getD 0 < x.moved + dataLength f ∧ d = .overWindow) :
    bodyViolation x f = some d := by
  obtain ⟨hf, rfl⟩ | ⟨hf, ho, rfl⟩ | ⟨hf, ho, hw, rfl⟩ := h
  · simp [bodyViolation, hf]
  · simp [bodyViolation, hf, windowViolation_of_offset ho]
  · simp [bodyViolation, hf, windowViolation_of_overWindow ho hw]

theorem unwantedViolation_eq (f : List Byte) : unwantedViolation f = if dataFormOk f = true then .direction else .form := by
  cases h : dataFormOk f <;> simp [unwantedViolation, h]

/-! ## The statements -/

/-- Settles O31: accepted DATA is one new record of its entry and one descriptor on its target's port, in the frame's own cells. -/
theorem initiatorDataIsForwarded : Obligations.InitiatorDataIsForwarded := by
  intro s u f i x g h hm hs hk hg hf hd ho hw hup
  have hv : initiatorDataViolation x f = none := initiatorDataViolation_eq_none.2 ⟨hf, hd, windowViolation_eq_none.2 ⟨ho, hw⟩⟩
  have hrule : u.initiatorDataRule i x f = u.acceptInitiatorData i x g f := by
    rw [State.initiatorDataRule_of_moving hk hs hg, State.movingRule, hv]
  have hgoes := State.setExchange_enqueue_goesOn (d := towardTarget (u.refOf i) (.data (dataOffset f) (dataPayload f)) f) (.inl hup) i
    { x with moved := x.moved + dataLength f }
  exact ⟨u.acceptInitiatorData i x g f, by rw [exec_initiatorData_of_matched h hm, hrule], hgoes.entry, hgoes.others, hgoes.lists, hgoes.core,
    hgoes.alerts, hgoes.cells, hgoes.queued⟩

/-- Settles O33: in each state that judges DATA the first check that fails names the detail, and the exchange ends as R70 or R71 gives. -/
theorem initiatorViolationsEndExchange : Obligations.InitiatorViolationsEndExchange := by
  intro s u f i x d h hm hd
  have hrule : u.initiatorDataRule i x f = (u.discard f).phaseViolation i x d := by
    obtain ⟨hk, hs, hr, hd⟩ | ⟨hk, hs, hd⟩ | ⟨hunwanted, hd⟩ := hd
    · obtain ⟨g, hg⟩ := Option.ne_none_iff_exists'.1 hr
      rw [State.initiatorDataRule_of_moving hk hs hg, State.movingRule, initiatorDataViolation_eq_some hd]
    · rw [State.initiatorDataRule_of_mgmtBody hk hs, State.bodyRule, bodyViolation_eq_some hd]
    · rw [State.initiatorDataRule_of_unwanted hunwanted, unwantedViolation_eq, hd]
  exact ⟨_, by rw [exec_initiatorData_of_matched h hm, hrule],
    State.discard_phaseViolation_violated (State.matchInitiator_exchange hm) f d⟩

end Sys2Proof.Machine
end

section
/-! An initiator's ABORT (R69, R80, R85 to R87). -/

namespace Sys2Proof.Machine

/-! ## What the ABORT meets -/

section
variable {u : State} {f : List Byte}

theorem State.takeAbort_of_malformed (h4 : 4 ≤ f.length) (hf : abortFormOk f = false) :
    u.takeAbort f = (u.discard f).postStaleInitiator f .form := by
  simp [State.takeAbort, isShort_eq_false h4, hf]

theorem State.takeAbort_of_unmatched (h4 : 4 ≤ f.length) (hf : abortFormOk f = true)
    (hm : ∀ i, ¬(u.entry i).holdsPair (frameInitiator f) (frameTag f)) : u.takeAbort f = u.answerNotFound f := by
  have hnone : u.openEntry (frameInitiator f) (frameTag f) = none := List.find?_eq_none.2 fun i _ => hm i
  simp [State.takeAbort, isShort_eq_false h4, hf, hnone]

theorem State.takeAbort_of_matched {i : EntryIndex} {x : Exchange} (h4 : 4 ≤ f.length) (hf : abortFormOk f = true)
    (hm : u.matchInitiator f = some (i, x)) : u.takeAbort f = u.abortMatched i x f := by
  have hx := State.matchInitiator_exchange hm
  have hopen : u.openEntry (frameInitiator f) (frameTag f) = some i := by
    unfold State.matchInitiator at hm
    split at hm
    · cases hm
    · next j hj =>
      obtain ⟨y, -, hy⟩ := Option.map_eq_some_iff.1 hm
      cases hy
      exact hj
  simp [State.takeAbort, isShort_eq_false h4, hf, hopen, hx]

end

section
variable {s : State} {f : List Byte} {i : EntryIndex} {x : Exchange}

theorem State.abortMatched_of_notFound (h : x.state = .aborting ∨ x.parked ≠ none) : s.abortMatched i x f = s.answerNotFound f :=
  if_pos (h.imp_right Option.isSome_iff_ne_none.2)

/-- An exchange that goes on until now, its STATUS still to come, by whether its target may act. -/
theorem State.abortMatched_of_open (ha : x.state ≠ .aborting) (hk : x.parked = none) :
    (x.targetActive = none → s.abortMatched i x f = s.abortUnseen i x f)
    ∧ ∀ g, x.targetActive = some g → s.abortMatched i x f = (s.discard f).enterAborting i x g .initiator false := by
  have hno : ¬(x.state = .aborting ∨ x.parked.isSome = true) := by simp [ha, hk]
  refine ⟨fun h => ?_, fun g h => ?_⟩ <;> rw [State.abortMatched, if_neg hno, h]

/-! ## What the answers leave -/

/-- NOT_FOUND joins port I's queue in the ABORT's own cell, and nothing else changes (R85). -/
theorem State.answerNotFound_frame (hup : (s.port .i).state = .up) (f : List Byte) :
    let v := s.answerNotFound f
    s.queuedOn v .i [notFoundAnswer f] ∧ s.sameEntries v ∧ s.sameLists v ∧ s.sameCore v ∧ s.sameAlerts v ∧ v.freeCells = s.freeCells := by
  refine ⟨State.enqueue_queuedOn .., State.enqueue_entry s .i _, State.enqueue_sameLists .., State.enqueue_sameCore ..,
    State.enqueue_sameAlerts .., ?_⟩
  rw [State.answerNotFound, State.enqueue_freeCells, if_pos hup]
  rfl

theorem State.withdrawUnseen_sameAlerts (s : State) (i : EntryIndex) (x : Exchange) : s.sameAlerts (s.withdrawUnseen i x) := by
  unfold State.withdrawUnseen State.withdrawRequest
  split <;> constructor <;> simp

/-- An exchange that ends once its REQUEST is withdrawn has ended unseen (R78, R86). -/
theorem State.EndsWith.unseenEnded {t : State} {d : Descriptor} (h : (s.withdrawUnseen i x).EndsWith t i x .i d) :
    s.unseenEnded t i x d 0 := by
  obtain ⟨⟨hi, hothers, hhold, hstart⟩, hcore, -, hcells, hI, hports⟩ := h
  obtain ⟨hsameI, htargets⟩ := s.withdrawUnseen_port i x
  refine ⟨⟨?_, fun j hj => ?_, ?_, ?_⟩, (s.withdrawUnseen_sameCore i x).trans hcore, ⟨?_, fun q => ?_⟩, ?_⟩
  · rw [hi, State.withdrawUnseen_entry]
  · rw [hothers j hj, State.withdrawUnseen_entry]
  · rw [State.placeGone, hhold, State.withdrawUnseen_holdQueue]
  · rw [hstart, State.withdrawUnseen_startList]
  · rw [hI, hsameI]
  · rw [hports (targetPort q) (by cases q <;> nofun), htargets q]
  · rw [hcells, State.withdrawUnseen_freeCells]; rfl

/-- ABORT_DONE ABORTED joins port I's queue in the ABORT's own cell, and the exchange is gone (R86). -/
theorem State.abortUnseen_frame (hx : (s.entry i).exchange = some x) (hup : (s.port .i).state = .up) (f : List Byte) :
    let v := s.abortUnseen i x f
    s.sameAlerts v ∧ s.unseenEnded v i x (forwarded (s.refOf i) x (.abortDone .aborted) f) 0 := by
  have hentry := s.withdrawUnseen_entry i i x
  have href : (s.withdrawUnseen i x).refOf i = s.refOf i := by rw [State.refOf, hentry]; rfl
  obtain ⟨hsameI, -⟩ := s.withdrawUnseen_port i x
  have hends := State.enqueue_freeEntry_endsWith (d := forwarded (s.refOf i) x (.abortDone .aborted) f) (by rw [hentry, hx])
    (.inl (by rw [hsameI, hup]))
  have heq : s.abortUnseen i x f
      = ((s.withdrawUnseen i x).enqueue .i (forwarded (s.refOf i) x (.abortDone .aborted) f)).freeEntry i := by
    rw [← href]; rfl
  rw [heq]
  exact ⟨(s.withdrawUnseen_sameAlerts i x).trans hends.alerts, hends.unseenEnded⟩

end

/-! ## The statement -/

/-- Settles O34: by the form of the ABORT, by what it matches, and by whether the target of its exchange may still act. -/
theorem abortsFromInitiator : Obligations.AbortsFromInitiator := by
  intro s u f ⟨hp, htake, h4⟩
  have hclock : u.clock = s.clock := State.takeKind_clock htake
  have hexec := exec_initiatorAbort hp htake
  refine ⟨fun hf => ?_, fun hf hup => ⟨fun hm => ?_, fun i x hm ha hk => ?_⟩⟩
  · refine ⟨_, hexec, ?_⟩
    rw [State.takeAbort_of_malformed h4 hf, ← hclock]
    exact u.discard_post f _
  · have hanswer : u.takeAbort f = u.answerNotFound f := by
      obtain hm | ⟨i, x, hm, hx⟩ := hm
      · exact State.takeAbort_of_unmatched h4 hf hm
      · rw [State.takeAbort_of_matched h4 hf hm, State.abortMatched_of_notFound hx]
    exact ⟨_, by rw [hexec, hanswer], State.answerNotFound_frame hup f⟩
  · have hx := State.matchInitiator_exchange hm
    obtain ⟨hunseen, hactive⟩ := State.abortMatched_of_open (s := u) (i := i) (f := f) ha hk
    refine ⟨fun hw => ?_, fun g hg hsent => ?_⟩
    · refine ⟨_, hexec, ?_⟩
      rw [State.takeAbort_of_matched h4 hf hm, hunseen (x.targetActive_none.2 hw)]
      exact State.abortUnseen_frame hx hup f
    · have hact : x.targetActive = some g := (x.targetActive_eq g).2 ⟨hg, by simp [hg, hsent], hk⟩
      refine ⟨_, hexec, ?_⟩
      rw [State.takeAbort_of_matched h4 hf hm, hactive g hact, ← hclock]
      have hgoes := State.setExchange_enqueue_goesOn (s := u.discard f) (p := targetPort g.link) (d := bridgeAbort (u.refOf i)) (.inr rfl) i
        { x with state := .aborting, closed := false, origin := some .initiator,
                 deadline := some { kind := .grace, due := u.clock + 250#32 } }
      exact ⟨hgoes.entry, hgoes.others, hgoes.lists, hgoes.core, hgoes.alerts, hgoes.cells, hgoes.queued⟩

end Sys2Proof.Machine
end

section
/-! DATA that leaves port I, sent or discarded, and a stale head of any port (R69, R74, R75, R106, R107, R122, R125, R140). -/

namespace Sys2Proof.Machine

/-! ## From a state that sent or dropped its head back to the one before -/

theorem State.setPort_sameCore (s : State) (p : Port) (r : PortRecord) : s.sameCore (s.setPort p r) := by
  refine ⟨?_, ?_, ⟨?_, ?_, ?_, ?_, ?_, ?_⟩, ?_, ?_, ?_, ?_, ?_, ?_, ?_⟩ <;> simp

theorem State.setPort_sameLists (s : State) (p : Port) (r : PortRecord) : s.sameLists (s.setPort p r) :=
  ⟨State.setPort_holdQueue .., State.setPort_startList ..⟩

theorem State.setPort_sameAlerts (s : State) (p : Port) (r : PortRecord) : s.sameAlerts (s.setPort p r) :=
  ⟨State.setPort_alerts .., State.setPort_dropped ..⟩

/-- What is freed after a port's record was replaced and cells were released is freed. -/
theorem State.freed.of_setPort_release {s t : State} {p : Port} {r : PortRecord} {n : Nat} {i : EntryIndex}
    (h : ((s.setPort p r).release n).freed t i) : s.freed t i := by
  obtain ⟨hi, hothers, hhold, hstart⟩ := h
  have hentry : ∀ j, ((s.setPort p r).release n).entry j = s.entry j := State.setPort_entry s p r
  exact ⟨hi.trans (by rw [hentry]), fun j hj => (hothers j hj).trans (hentry j),
    hhold.trans (by rw [State.release_holdQueue, State.setPort_holdQueue]), hstart.trans (State.setPort_startList ..)⟩

theorem State.refOf_of_entry {s : State} {r : EntryRef} {x : Option Exchange} (h : s.entry r.index = { inc := r.inc, exchange := x }) :
    s.refOf r.index = r := by
  rw [State.refOf, h]

/-! ## The last DATA of an exchange (R69, R107, R140) -/

section
variable {s : State} {i : EntryIndex} {x : Exchange}

theorem State.dataLeft_of_parked {k : ParkedStatus} (h : x.parked = some k) : s.dataLeft i x = s.deliverStatus i x k := by
  simp [State.dataLeft, h]

/-- A snapshot's code, or a management answer's, closes an exchange that holds no target's STATUS. -/
theorem State.dataLeft_of_closing {code : Byte} (hk : x.parked = none)
    (h : (∃ n, x.snapshot = some n ∧ code = n.code) ∨ x.snapshot = none ∧ ∃ a, x.answer = some a ∧ code = a.code) :
    s.dataLeft i x = s.closeAndFree i x code := by
  obtain ⟨n, hn, rfl⟩ | ⟨hn, a, ha, rfl⟩ := h
  · simp [State.dataLeft, hk, hn]
  · simp [State.dataLeft, hk, hn, ha, State.closeManagement_unmarked]

/-- With the last DATA the exchange ends by one descriptor on port I, or nothing follows. -/
theorem State.dataLeft_cases (hup : (s.port .i).state = .up) (hx : (s.entry i).exchange = some x) :
    s.dataLeft i x = s ∨ ∃ y d, s.EndsWith (s.dataLeft i x) i y .i d := by
  unfold State.dataLeft
  split
  · exact .inr ⟨_, _, State.deliverStatus_endsWith hup ..⟩
  · exact .inr ⟨_, _, State.closeAndFree_endsWith hx _⟩
  · exact .inr ⟨_, _, State.closeAndFree_endsWith hx _⟩
  · exact .inl rfl

/-- DATA waiting falls to `y`'s; at 0 the last DATA has left. -/
theorem State.dataGone_eq {y : Exchange} (s : State) (i : EntryIndex) (hy : y = { x with dataWaiting := x.dataWaiting - 1 }) :
    s.dataGone i x = if y.dataWaiting = 0 then (s.setExchange i y).dataLeft i y else s.setExchange i y := by
  subst hy; rfl

/-- Whatever follows when DATA has left, it touches no port but port I, and neither the core nor the alerts. -/
theorem State.dataGone_frame (hup : (s.port .i).state = .up) :
    s.sameCore (s.dataGone i x) ∧ s.sameAlerts (s.dataGone i x) ∧ s.samePortsBut (s.dataGone i x) .i := by
  let y : Exchange := { x with dataWaiting := x.dataWaiting - 1 }
  rw [s.dataGone_eq i (y := y) rfl]
  have hset : s.sameCore (s.setExchange i y) ∧ s.sameAlerts (s.setExchange i y) ∧ s.samePortsBut (s.setExchange i y) .i :=
    ⟨s.setExchange_sameCore i y, ⟨rfl, rfl⟩, fun q _ => s.setExchange_port i y q⟩
  split
  · obtain h | ⟨z, d, h⟩ := State.dataLeft_cases (s := s.setExchange i y) (i := i) (x := y) (by rw [State.setExchange_port, hup])
      (by rw [State.setExchange_entry_self])
    · rwa [h]
    · exact ⟨h.of_setExchange.core, h.of_setExchange.alerts, h.of_setExchange.queued.2⟩
  · exact hset

end

/-! ## DATA that has been sent (R74, R106) -/

theorem Descriptor.isRequest_of_isData {d : Descriptor} (h : d.isData = true) : d.isRequest = false ∧ d.isAlert = false := by
  unfold Descriptor.isData at h
  split at h
  · next hc => simp [Descriptor.isRequest, Descriptor.isAlert, hc]
  · next hc => simp [Descriptor.isRequest, Descriptor.isAlert, hc]
  · cases h

/-- The last piece of a DATA descriptor leaves port I. -/
theorem State.sendHead_of_lastData {s : State} {d : Descriptor} (rest : List Descriptor) (hd : d.isData = true) (hw : d.warmMark = false)
    (hlast : d.progressAfter (s.segment .i) = none) :
    s.sendHead .i d rest = ((s.afterSending .i (s.frameToSend d (s.segment .i)) rest).release d.cells).dataSent d := by
  obtain ⟨hr, ha⟩ := Descriptor.isRequest_of_isData hd
  rw [State.sendHead_of_last rest hlast, State.completed_of_plain _ .i hr ha hw, if_pos ⟨rfl, hd⟩]

theorem State.dataSent_of_run {s : State} {d : Descriptor} {r : EntryRef} {x : Exchange} {off : Nat} {payload : List Byte}
    (hc : d.content = .run off payload) (he : d.entry = some r) (hx : s.exchangeAt r = some x) :
    s.dataSent d = s.dataGone r.index (x.withRun payload) := by
  simp [State.dataSent, he, hx, hc]

/-- Within the bound of bytes moved a run counts whole (R61, R106). -/
theorem Exchange.withRun_of_le {x : Exchange} {payload : List Byte} (h : x.snapshot ≠ none ∨ x.answer ≠ none)
    (hb : x.moved + payload.length ≤ x.moveBound) : x.withRun payload = { x with moved := x.moved + payload.length } := by
  have hhas : (x.snapshot.isSome || x.answer.isSome) = true := by
    obtain h | h := h <;> simp [Option.isSome_iff_ne_none.2 h]
  rw [Exchange.withRun, if_pos hhas, Nat.min_eq_left hb, Nat.max_eq_right (Nat.le_add_right ..)]

theorem State.frameToSend_of_run {s : State} {d : Descriptor} {r : EntryRef} {x : Exchange} {off : Nat} {payload : List Byte}
    (hc : d.content = .run off payload) (he : d.entry = some r) (hx : s.exchangeAt r = some x) (m : Nat) :
    s.frameToSend d m = dataFrame x.initiator x.tag off payload := by
  simp [State.frameToSend, State.runOwner, hc, he, hx, dataFrame]

/-- A run is sent whole (R106). -/
theorem Descriptor.progressAfter_of_run {d : Descriptor} {off : Nat} {payload : List Byte} (hc : d.content = .run off payload) (m : Nat) :
    d.progressAfter m = none := by
  simp [Descriptor.progressAfter, Descriptor.splitPayload, hc]

/-- `d`, of the exchange `x`, goes out for good as `f`, a run or the last piece of stored DATA, and `y` is what its exchange becomes. -/
def Descriptor.LeavesAs (d : Descriptor) (x y : Exchange) (f : Frame) (m : Nat) : Prop :=
  (∃ off payload, d.content = .run off payload ∧ (x.snapshot ≠ none ∨ x.answer ≠ none) ∧ x.moved + payload.length ≤ x.moveBound
      ∧ f = dataFrame x.initiator x.tag off payload
      ∧ y = { x with moved := x.moved + payload.length, dataWaiting := x.dataWaiting - 1 })
    ∨ ∃ a tag off payload n, d.content = .stored (dataFrame a tag off payload) n ∧ payload.length ≤ d.progress + m
      ∧ f = dataFrame a tag (off + d.progress) (payload.drop d.progress) ∧ y = { x with dataWaiting := x.dataWaiting - 1 }

theorem Descriptor.LeavesAs.isData {d : Descriptor} {x y : Exchange} {f : Frame} {m : Nat} (h : d.LeavesAs x y f m) : d.isData = true := by
  obtain ⟨off, payload, hc, -⟩ | ⟨a, tag, off, payload, n, hc, -⟩ := h
  · simp [Descriptor.isData, hc]
  · simp [Descriptor.isData, hc, dataFrame]

/-- Of the exchange a departure changes the books alone. -/
theorem Descriptor.LeavesAs.keeps {d : Descriptor} {x y : Exchange} {f : Frame} {m : Nat} (h : d.LeavesAs x y f m) :
    y.dataWaiting = x.dataWaiting - 1 ∧ y.parked = x.parked ∧ y.snapshot = x.snapshot ∧ y.answer = x.answer ∧ y.ownCells = x.ownCells := by
  obtain ⟨off, payload, -, -, -, -, rfl⟩ | ⟨a, tag, off, payload, n, -, -, -, rfl⟩ := h <;> exact ⟨rfl, rfl, rfl, rfl, rfl⟩

/-- Port I sends the descriptor for the last time, and DATA of its exchange is gone. -/
theorem Descriptor.LeavesAs.sendHead {s : State} {d : Descriptor} {r : EntryRef} {x y : Exchange} {f : Frame} {m : Nat}
    (h : d.LeavesAs x y f m) (rest : List Descriptor) (hm : s.segment .i = m) (hw : d.warmMark = false) (he : d.entry = some r)
    (hx : s.exchangeAt r = some x) :
    ∃ z, y = { z with dataWaiting := z.dataWaiting - 1 }
      ∧ s.sendHead .i d rest = ((s.afterSending .i f rest).release d.cells).dataGone r.index z := by
  have hat : ∀ g, ((s.afterSending .i g rest).release d.cells).exchangeAt r = some x := fun g =>
    (State.exchangeAt_congr (State.afterSending_entries s .i g rest) r).trans hx
  have hdata := h.isData
  obtain ⟨off, payload, hc, hhas, hb, rfl, rfl⟩ | ⟨a, tag, off, payload, n, hc, hlen, rfl, rfl⟩ := h
  · refine ⟨{ x with moved := x.moved + payload.length }, rfl, ?_⟩
    rw [State.sendHead_of_lastData rest hdata hw (Descriptor.progressAfter_of_run hc _), State.frameToSend_of_run hc he hx,
      State.dataSent_of_run hc he (hat _), Exchange.withRun_of_le hhas hb]
  · have hlast : d.progressAfter (s.segment .i) = none := by
      rw [Descriptor.progressAfter_of_data hc, hm, if_neg (Nat.not_lt.2 hlen)]
    refine ⟨x, rfl, ?_⟩
    rw [State.sendHead_of_lastData rest hdata hw hlast, State.frameToSend_of_data s hc, State.dataSent_of_stored hc he (hat _), hm,
      List.take_of_length_le (by rw [List.length_drop]; omega)]

/-- Settles O42: the head goes out for good, and by the DATA that still waits its exchange goes on or ends with its closing frame. -/
theorem lastDataQueuesClosingFrame : Obligations.LastDataQueuesClosingFrame := by
  intro s d rest r x y f m hp hup hcredit hm hq hw he hx hopen hleaves left
  replace hleaves : d.LeavesAs x y f m := hleaves
  have hat : s.exchangeAt r = some x := State.exchangeAt_of_entry hx
  have hpass : s.passesHead .i d = true := State.passesHead_of_open fun r' hr' => by
    rw [he, Option.some.injEq] at hr'
    exact ⟨x, hr' ▸ hat, hopen⟩
  obtain ⟨hwaiting, hparked, hsnapshot, hanswer, hown⟩ := hleaves.keeps
  obtain ⟨z, hz, hsend⟩ := hleaves.sendHead rest (show s.segment .i = m by simp [State.segment, hm]) hw he hat
  let w := (s.afterSending .i f rest).release d.cells
  have hwup : (w.port .i).state = .up := hup
  have hwentry : w.entry r.index = s.entry r.index := State.afterSending_entry ..
  have hwref : (w.setExchange r.index y).refOf r.index = r := by
    rw [State.setExchange_refOf, State.refOf_of_entry (hwentry.trans hx)]
  obtain ⟨hcore, halerts, hports⟩ := State.dataGone_frame (i := r.index) (x := z) hwup
  have hgone := w.dataGone_eq r.index hz
  refine ⟨_, exec_transmission hp hup hcredit hq hpass, ?_⟩
  rw [hsend]
  have hends : ∀ {v : State} {c : Exchange} {e : Descriptor}, (w.setExchange r.index y).EndsWith v r.index c .i e →
      s.freed v r.index ∧ v.portI = left [e] ∧ v.freeCells = s.freeCells + d.cells + c.ownCells := by
    intro v c e h
    refine ⟨h.of_setExchange.freed.of_setPort_release, ?_, h.cells⟩
    exact h.of_setExchange.queued.1.trans (if_pos hwup)
  refine ⟨(s.setPort_sameCore ..).trans hcore, (s.setPort_sameAlerts ..).trans halerts,
    fun q hne => (hports q hne).trans (State.setPort_port_ne s _ hne), fun hmore => ?_, fun hlast => ?_⟩
  · rw [hgone, if_neg (by omega)]
    refine ⟨?_, fun j hj => ?_, ⟨rfl, rfl⟩, ?_, rfl⟩
    · rw [State.setExchange_entry_self, hwentry, hx]
    · rw [State.setExchange_entry_ne _ _ hj]; exact State.afterSending_entry ..
    · simp only [left, List.append_nil]; rfl
  · rw [hgone, if_pos (by omega)]
    refine ⟨fun k hk => ?_, fun code hk hcode => ?_⟩
    · rw [State.dataLeft_of_parked (hparked.trans hk)]
      obtain ⟨hfreed, hport, hcells⟩ := hends (State.deliverStatus_endsWith (s := w.setExchange r.index y) hwup r.index y k)
      rw [hwref] at hport
      refine ⟨hfreed, hport, ?_⟩
      rw [hcells, Nat.add_assoc, Exchange.ownCells_of_parked (hparked.trans hk), hown]
    · rw [State.dataLeft_of_closing (hparked.trans hk) (by rwa [hsnapshot, hanswer])]
      obtain ⟨hfreed, hport, hcells⟩ := hends
        (State.closeAndFree_endsWith (s := w.setExchange r.index y) (y := y) (by rw [State.setExchange_entry_self]) code)
      rw [hwref] at hport
      exact ⟨hfreed, hport, by rw [hcells, hown]⟩

/-! ## A head that is discarded (R74, R75) -/

/-- Without peer credit, on a port that is not UP, or with nothing queued there is no discard (R122, R125). -/
theorem headDiscardEvent_eq_none {s : State} {p : Port} (h : (s.port p).peerCredit = 0 ∨ (s.port p).state ≠ .up ∨ (s.port p).egress = []) :
    headDiscardEvent p s = none := by
  unfold headDiscardEvent
  split
  · rfl
  · next d rest hq =>
    refine if_neg fun ⟨hup, hcredit, _⟩ => ?_
    obtain h | h | h := h
    · omega
    · exact h ((s.isUp_iff p).1 hup)
    · rw [hq] at h; cases h

/-- A port in UP with peer credit discards a head that fails its check. -/
theorem exec_headDiscard {s : State} {p : Port} {d : Descriptor} {rest : List Descriptor} (hp : s.resetPin = false)
    (hup : (s.port p).state = .up) (hcredit : 1 ≤ (s.port p).peerCredit) (hq : (s.port p).egress = d :: rest) (hd : s.passesHead p d = false) :
    exec (.headDiscard p) s = .next (s.dropHead p d rest).settle :=
  event_occurs (f := headDiscardEvent p) hp
    (by simp [headDiscardEvent, hq, (s.isUp_iff p).2 hup, hd, Nat.lt_of_lt_of_le Nat.zero_lt_one hcredit])

theorem State.exchangeAt_of_stale {s : State} {r : EntryRef} (h : (s.entry r.index).exchange = none ∨ (s.entry r.index).inc ≠ r.inc) :
    s.exchangeAt r = none := by
  unfold State.exchangeAt
  obtain h | h := h <;> simp [h]

/-- A head fails its check when no exchange is in use at the recorded incarnation; on port I it has to be DATA (R74, R75). -/
theorem State.passesHead_of_stale {s : State} {p : Port} {d : Descriptor} {r : EntryRef} (he : d.entry = some r)
    (hd : p = .i → d.isData = true) (h : s.exchangeAt r = none) : s.passesHead p d = false := by
  cases p with
  | i => simp [State.passesHead, he, h, hd rfl]
  | t0 | t1 => simp [State.passesHead, he, h]

theorem State.passesHead_of_closed {s : State} {d : Descriptor} {r : EntryRef} {x : Exchange} (he : d.entry = some r) (hd : d.isData = true)
    (h : s.exchangeAt r = some x) (hc : x.closed = true) : s.passesHead .i d = false := by
  simp [State.passesHead, he, h, hd, hc]

section
variable {s : State} {d : Descriptor} {r : EntryRef} {x : Exchange}

theorem State.dataDropped_of_stale (he : d.entry = some r) (h : s.exchangeAt r = none) : s.dataDropped d = s := by
  simp [State.dataDropped, he, h]

/-- Discarded DATA lowers DATA waiting, and nothing follows while other DATA waits or no STATUS is parked. -/
theorem State.dataDropped_of_quiet (he : d.entry = some r) (hx : s.exchangeAt r = some x) (h : x.parked = none ∨ 2 ≤ x.dataWaiting) :
    s.dataDropped d = s.setExchange r.index { x with dataWaiting := x.dataWaiting - 1 } := by
  simp only [State.dataDropped, he, hx]
  split
  · next k hk => exact if_neg (by simp only [hk, reduceCtorEq, false_or] at h; omega)
  · rfl

theorem State.dataDropped_of_last {k : ParkedStatus} (he : d.entry = some r) (hx : s.exchangeAt r = some x) (hk : x.parked = some k)
    (h : x.dataWaiting = 1) :
    s.dataDropped d = (s.setExchange r.index { x with dataWaiting := x.dataWaiting - 1 }).deliverStatus r.index
      { x with dataWaiting := x.dataWaiting - 1 } k := by
  simp [State.dataDropped, he, hx, hk, h]

end

/-- Settles O43: a head that fails its check leaves with its cells, and the DATA of an exchange that has closed is counted off. -/
theorem staleHeadIsDiscarded : Obligations.StaleHeadIsDiscarded := by
  refine ⟨fun s p h => event_absent (headDiscardEvent_eq_none h), ?_⟩
  intro s p d rest r hp hup hcredit hq he u
  have hu : (s.setPort p { s.port p with egress := rest }).release d.cells = u := by simp [State.release, u]
  have hentries : u.entries = s.entries := State.setPort_entries ..
  have hdrop : s.dropHead p d rest = if p = .i ∧ d.isData = true then u.dataDropped d else u := by rw [← hu]; rfl
  refine ⟨fun hd hstale => ?_, fun x hpi hd hx hc => ?_⟩
  · have hat := State.exchangeAt_of_stale hstale
    have hdropped : u.dataDropped d = u := State.dataDropped_of_stale he ((State.exchangeAt_congr hentries r).trans hat)
    rw [exec_headDiscard hp hup hcredit hq (State.passesHead_of_stale he hd hat), hdrop, hdropped, ite_self]
  · subst hpi
    have hat := State.exchangeAt_of_entry hx
    have huat : u.exchangeAt r = some x := (State.exchangeAt_congr hentries r).trans hat
    have hexec : exec (.headDiscard .i) s = .next (u.dataDropped d).settle := by
      rw [exec_headDiscard hp hup hcredit hq (State.passesHead_of_closed he hd hat hc), hdrop, if_pos ⟨rfl, hd⟩]
    refine ⟨fun hquiet => by rw [hexec, State.dataDropped_of_quiet he huat hquiet], fun k hk hlast => ?_⟩
    refine ⟨_, hexec, ?_⟩
    rw [State.dataDropped_of_last he huat hk hlast]
    have huref : (u.setExchange r.index { x with dataWaiting := x.dataWaiting - 1 }).refOf r.index = r := by
      rw [State.setExchange_refOf, State.refOf_of_entry ((State.entry_congr hentries r.index).trans hx)]
    have hends := (State.deliverStatus_endsWith (s := u.setExchange r.index { x with dataWaiting := x.dataWaiting - 1 }) hup r.index
      { x with dataWaiting := x.dataWaiting - 1 } k).of_setExchange
    rw [huref] at hends
    refine ⟨hends.freed, hends.core, hends.alerts, hends.queued, ?_⟩
    rw [hends.cells, Nat.add_assoc, Exchange.ownCells_of_parked (x := { x with dataWaiting := x.dataWaiting - 1 }) hk]
    rfl

end Sys2Proof.Machine
end

section
/-! A target's frames on an entry in ABORTING (R81 to R83). -/

namespace Sys2Proof.Machine

/-! ## The form checks that R81 names -/

/-- Of the conditions of R62, the least length follows from the exact one. -/
theorem statusFormOk_iff_exact_length {f : List Byte} :
    statusFormOk f = true ↔ f.length = 12 + (byteAt f 6).toNat ∧ (byteAt f 6).toNat ≤ 16 ∧ (byteAt f 1).toNat % 16 = 0
      ∧ (byteAt f 5).toNat < 4 ∧ byteAt f 7 = 0#8 ∧ byteAt f 11 = 0#8 := by
  rw [statusFormOk_iff]
  constructor
  · rintro ⟨-, hdetail, hlength, hreserved, h7, h11, hflags⟩
    exact ⟨hlength, hdetail, hreserved, by omega, h7, h11⟩
  · rintro ⟨hlength, hdetail, hreserved, hflags, h7, h11⟩
    exact ⟨by omega, hdetail, hlength, hreserved, h7, h11, by omega⟩

theorem abortDoneFormOk_iff {f : List Byte} :
    abortDoneFormOk f = true ↔ f.length = 8 ∧ (byteAt f 4 = 0x01#8 ∨ byteAt f 4 = 0x02#8) ∧ (byteAt f 1).toNat % 16 = 0
      ∧ byteAt f 5 = 0#8 ∧ byteAt f 6 = 0#8 ∧ byteAt f 7 = 0#8 := by
  simp only [abortDoneFormOk, Bool.and_eq_true, Bool.or_eq_true, decide_eq_true_iff, beq_iff_eq, headerReservedZero_iff, bytesZero_iff,
    List.forall_mem_cons, AbortOutcome.code]
  tauto

/-! ## The rules in ABORTING -/

section
variable {s u : State} {t : Target} {f : List Byte} {i : EntryIndex} {x : Exchange} {g : Routing}

theorem exec_targetAbortDone (h : s.taking (targetPort t) 0x06#8 f u) (hm : u.matchTarget t f = .matched i x g) :
    exec (.targetAbortDone t) s = .next (u.abortDoneRule t f i x g).settle :=
  event_of_matched (rule := fun u f => u.abortDoneRule t f) h hm

theorem State.proceedRule_of_aborting (ha : x.state = .aborting) (hk : x.parked = none) : u.proceedRule t f i x g = u.discard f := by
  simp [State.proceedRule, hk, ha]

theorem State.targetDataRule_of_aborting (ha : x.state = .aborting) (hk : x.parked = none) : u.targetDataRule t f i x g = u.discard f := by
  simp [State.targetDataRule, hk, ha]

theorem State.statusRule_of_aborting (ha : x.state = .aborting) (hk : x.parked = none) :
    u.statusRule t f i x g = if statusFormOk f = true then u.endAbortByStatus i x f else u.discard f := by
  simp [State.statusRule, hk, ha]

theorem State.abortDoneRule_of_aborting (ha : x.state = .aborting) (hk : x.parked = none) :
    u.abortDoneRule t f i x g = if abortDoneFormOk f = true then u.endAbortByDone i x f else u.discard f := by
  simp [State.abortDoneRule, hk, ha]

/-- A frame that ends no abort is discarded, whichever of the four commands takes it (R81). -/
theorem exec_targetFrame_discarded {k : Byte} {c : Instr} (hm : u.matchesAborting t f i x g) (hc : (k, c) ∈ targetFrames t)
    (h : s.taking (targetPort t) k f u) (hstatus : k = 0x04#8 → statusFormOk f = false) (hdone : k = 0x06#8 → abortDoneFormOk f = false) :
    exec c s = .next (u.discard f).settle := by
  obtain ⟨hmatch, ha, hk⟩ := hm
  simp only [targetFrames, List.mem_cons, List.not_mem_nil, or_false, Prod.mk.injEq] at hc
  obtain ⟨rfl, rfl⟩ | ⟨rfl, rfl⟩ | ⟨rfl, rfl⟩ | ⟨rfl, rfl⟩ := hc
  · rw [exec_targetProceed h hmatch, State.proceedRule_of_aborting ha hk]
  · rw [exec_targetData h hmatch, State.targetDataRule_of_aborting ha hk]
  · rw [exec_targetStatus h hmatch, State.statusRule_of_aborting ha hk, hstatus rfl, if_neg Bool.false_ne_true]
  · rw [exec_targetAbortDone h hmatch, State.abortDoneRule_of_aborting ha hk, hdone rfl, if_neg Bool.false_ne_true]

/-! ## The end of an abort (R82, R83) -/

/-- Entry i, in use with `x`, is free with its cells, and `cells` further ones are free; no port and nothing else has changed. -/
structure State.EndsQuietly (s t : State) (i : EntryIndex) (x : Exchange) (cells : Nat) : Prop where
  freed : s.freed t i
  core : s.sameCore t
  alerts : s.sameAlerts t
  ports : ∀ p, t.port p = s.port p
  cells : t.freeCells = s.freeCells + cells + x.ownCells

theorem State.freeEntry_endsQuietly (hx : (s.entry i).exchange = some x) : s.EndsQuietly (s.freeEntry i) i x 0 where
  freed := State.freeEntry_freed hx
  core := s.freeEntry_sameCore i
  alerts := ⟨s.freeEntry_alerts i, s.freeEntry_dropped i⟩
  ports := s.freeEntry_port i
  cells := by rw [State.freeEntry_freeCells, Entry.cells, hx]; rfl

/-- On a closed exchange the frame that ends the abort goes no further. -/
theorem State.discard_freeEntry_endsQuietly (hx : (s.entry i).exchange = some x) (f : List Byte) :
    s.EndsQuietly ((s.discard f).freeEntry i) i x ((f.length + 63) / 64) := by
  have h := State.freeEntry_endsQuietly (s := s.discard f) (by rw [State.discard_entry, hx])
  exact ⟨h.freed, h.core, h.alerts, fun p => (h.ports p).trans (s.discard_port f p), h.cells⟩

/-- On an open exchange the target's STATUS is the closing frame, with the bridge's residue. -/
theorem State.deliverStatus_readStatus_endsWith (hup : (s.port .i).state = .up) (hk : x.parked = none) :
    s.EndsWith (s.deliverStatus i x (readStatus f)) i x .i (forwarded (s.refOf i) x
      (.status (statusCode f) true (statusResidue f != x.length - x.moved) (x.length - x.moved) (statusDetail f)) f) := by
  have h := State.deliverStatus_endsWith hup i x (readStatus f)
  rwa [show ({ x with parked := none } : Exchange) = x by rw [← hk]] at h

/-- On an open exchange the target's ABORT_DONE goes on, with outcome ABORTED, in its own cells. -/
theorem State.abortDone_endsWith (hx : (s.entry i).exchange = some x) (hup : (s.port .i).state = .up) :
    s.EndsWith ((s.enqueue .i (s.ofEntry i (.stored (abortDoneFrame x) (cellsFor f.length)))).freeEntry i) i x .i
      (forwarded (s.refOf i) x (.abortDone .aborted) f) :=
  State.enqueue_freeEntry_endsWith hx (.inl hup)

end

/-! ## The statements -/

/-- Settles O27: by the kind of the frame, the rule in ABORTING is to discard it unless a STATUS or an ABORT_DONE passes its form check. -/
theorem abortingDiscards : Obligations.AbortingDiscards := by
  refine ⟨fun f => statusFormOk_iff_exact_length, fun f => abortDoneFormOk_iff, ?_⟩
  intro s u t f i x g k c hm hc h hstatus hdone
  exact ⟨_, exec_targetFrame_discarded hm hc h hstatus hdone, u.discard_onlyDiscards f, rfl, rfl⟩

/-- Settles O30: for each of the two frames, by whether the exchange has closed. -/
theorem targetAnswerEndsAbort : Obligations.TargetAnswerEndsAbort := by
  intro s u t f i x g ⟨hm, ha, hk⟩ hup
  obtain ⟨-, -, -, hx, -⟩ := State.matchTarget_eq_matched.1 hm
  have hquiet := State.discard_freeEntry_endsQuietly hx f
  refine ⟨fun h hf => ?_, fun h hf => ?_⟩
  · refine ⟨_, exec_targetStatus h hm, ?_⟩
    rw [State.statusRule_of_aborting ha hk, if_pos hf, State.endAbortByStatus]
    cases hc : x.closed with
    | true => exact ⟨hquiet.freed, hquiet.core, hquiet.alerts, fun _ => ⟨hquiet.ports, hquiet.cells⟩, nofun⟩
    | false =>
      have hends := State.deliverStatus_readStatus_endsWith (i := i) (f := f) hup hk
      exact ⟨hends.freed, hends.core, hends.alerts, nofun, fun _ => ⟨hends.cells, hends.queued⟩⟩
  · refine ⟨_, exec_targetAbortDone h hm, ?_⟩
    rw [State.abortDoneRule_of_aborting ha hk, if_pos hf, State.endAbortByDone]
    cases hc : x.closed with
    | true => exact ⟨hquiet.freed, hquiet.core, hquiet.alerts, fun _ => ⟨hquiet.ports, hquiet.cells⟩, nofun⟩
    | false =>
      have hends := State.abortDone_endsWith (f := f) hx hup
      exact ⟨hends.freed, hends.core, hends.alerts, nofun, fun _ => ⟨hends.cells, hends.queued⟩⟩

end Sys2Proof.Machine
end

section
/-! The four expiries of an entry's timer (R78, R79, R84, R95, R138). -/

namespace Sys2Proof.Machine

section
variable {s t : State} {i : EntryIndex} {x : Exchange}

/-! ## The event of a deadline that is due -/

theorem State.due.expired {k : DeadlineKind} (h : s.due i k x) : s.resetPin = false ∧ (s.entry i).exchange = some x ∧ s.expired i k = some x := by
  obtain ⟨hp, hx, d, hd, hr⟩ := h
  exact ⟨hp, hx, State.expired_eq_some_iff.2 ⟨hx, d, hd, reached_eq_true_iff.2 hr⟩⟩

theorem exec_exchangeDeadlineExpiry (hp : s.resetPin = false) (h : s.expired i .exchange = some x) :
    exec (.exchangeDeadlineExpiry i) s = .next ((s.endWithStatus i x codeTimedOut .timeout).post
      (s.timeoutAlert i x (if x.targetActive.isSome then .sent else .notSent))).settle :=
  event_occurs (f := exchangeExpiryEvent i) hp (by rw [exchangeExpiryEvent, h]; rfl)

theorem exec_graceExpiry (hp : s.resetPin = false) (h : s.expired i .grace = some x) :
    exec (.graceExpiry i) s = .next (if x.closed = true then s.freeEntry i
      else (s.enqueue .i (bridgeAbortDone (s.refOf i) x)).freeEntry i).settle :=
  event_occurs (f := graceExpiryEvent i) hp (by rw [graceExpiryEvent, h]; rfl)

theorem exec_holdExpiry (hp : s.resetPin = false) (h : s.expired i .hold = some x) :
    exec (.holdExpiry i) s = .next (s.expireHold i x).settle :=
  event_occurs (f := holdExpiryEvent i) hp (by rw [holdExpiryEvent, h]; rfl)

theorem exec_bodyDeadlineExpiry (hp : s.resetPin = false) (h : s.expired i .body = some x) :
    exec (.bodyDeadlineExpiry i) s = .next ((s.closeAndFree i x codeTimedOut).post (s.timeoutAlert i x .body)).settle :=
  event_occurs (f := bodyExpiryEvent i) hp (by rw [bodyExpiryEvent, h]; rfl)

/-! ## The alert that follows the end -/

theorem Exchange.isSome_targetActive_iff (x : Exchange) : x.targetActive.isSome = true ↔ x.awaitsTarget := by
  rw [← not_iff_not, Bool.not_eq_true, Option.isSome_eq_false_iff, Option.isNone_iff_eq_none, Exchange.targetActive_none]

/-- The alert posted on a state in which an exchange has ended with one descriptor changes the alerts alone. -/
theorem State.EndsWith.post {p : Port} {d : Descriptor} (h : s.EndsWith t i x p d) (a : Alert) :
    let v := t.post a
    s.freed v i ∧ s.sameCore v ∧ v.freeCells = s.freeCells + x.ownCells ∧ s.queuedOn v p [d] ∧ s.posted v a := by
  obtain ⟨hi, hothers, hhold, hstart⟩ := h.freed
  refine ⟨⟨(t.post_entry a i).trans hi, fun j hj => (t.post_entry a j).trans (hothers j hj), (t.post_holdQueue a).trans hhold,
    (t.post_startList a).trans hstart⟩, h.core.trans (t.post_sameCore a), (t.post_freeCells a).trans h.cells,
    h.queued.of_ports (t.post_port a), h.alerts.posted_post a⟩

end

/-! ## The statements -/

/-- Settles O35: the exchange ends as by any STATUS of the bridge, and the alert's detail is told by the same question. -/
theorem exchangeDeadlineExpires : Obligations.ExchangeDeadlineExpires := by
  intro s i x hdue
  obtain ⟨hp, hx, h⟩ := hdue.expired
  have hposted := (s.endWithStatus_sameAlerts i x codeTimedOut .timeout).posted_post
    (s.timeoutAlert i x (if x.targetActive.isSome = true then .sent else .notSent))
  refine ⟨_, exec_exchangeDeadlineExpiry hp h, (State.endWithStatus_endedWith hx _ _).post _, fun hw => ?_, fun hw => ?_⟩
  · rwa [if_pos (x.isSome_targetActive_iff.2 hw)] at hposted ⊢
  · rwa [if_neg (mt x.isSome_targetActive_iff.1 hw)] at hposted ⊢

/-- Settles O36: grace ends with ABORT_DONE or in silence; a hold and a body wait close as any exchange does, and their alert is posted. -/
theorem entryTimersFree : Obligations.EntryTimersFree := by
  refine ⟨fun s i x hdue => ?_, fun s i x => ⟨fun hdue => ?_, fun hdue hg => ?_⟩⟩
  · obtain ⟨hp, hx, h⟩ := hdue.expired
    refine ⟨_, exec_graceExpiry hp h, ?_⟩
    cases x.closed with
    | true =>
      have hquiet := State.freeEntry_endsQuietly hx
      exact ⟨hquiet.freed, hquiet.core, hquiet.alerts, hquiet.cells, (hquiet.ports .i).trans (PortRecord.queued_nil _).symm,
        fun q _ => hquiet.ports q⟩
    | false =>
      have hends := State.enqueue_freeEntry_endsWith (p := .i) (d := bridgeAbortDone (s.refOf i) x) hx (.inr rfl)
      exact ⟨hends.freed, hends.core, hends.alerts, hends.cells, hends.queued⟩
  · obtain ⟨hp, hx, h⟩ := hdue.expired
    exact ⟨_, exec_holdExpiry hp h, (State.closeAndFree_endsWith hx _).post _⟩
  · obtain ⟨hp, hx, h⟩ := hdue.expired
    have halert : s.timeoutAlert i x .body = exchangeAlert s (.timeout .body) i x := by
      rw [State.timeoutAlert, Exchange.linkPort, hg]; rfl
    refine ⟨_, exec_bodyDeadlineExpiry hp h, ?_⟩
    rw [halert]
    exact (State.closeAndFree_endsWith hx _).post _

end Sys2Proof.Machine
end

section
/-! The checks on a management operation, R139's and its own, in their order (R89, R96, R136, R139, R141, R145, R150, R164). -/

namespace Sys2Proof.Machine

/-! ## The verdict that performs an operation (R136, R139; log entry 3) -/

section
variable {s u : State} {f : List Byte} {i : EntryIndex}

theorem State.admitManagement_of_no_body (h : ¬((readRequest f).direction = .dirOut ∧ 0 < (readRequest f).length)) :
    u.admitManagement i f = (u.opened f i).performOperation i (managementExchange f) :=
  if_neg h

/-- The verdict concludes with the result of the operation. -/
theorem State.atVerdict.exec_verdict_eq (h : s.atVerdict f u i) :
    exec .verdict s = State.concluded f i (operationResult (u.opened f i) i (managementExchange f)) := by
  obtain ⟨hp, htake, h4, hj, hbody⟩ := h
  rw [exec_verdict_of_judge hp htake h4 hj, State.giveVerdict, State.admitManagement_of_no_body hbody]
  rfl

theorem State.atVerdict.verdictPerforms (h : s.atVerdict f u i) : s.verdictPerforms = opNamedBy (readRequest f).params := by
  obtain ⟨-, htake, h4, hj, hbody⟩ := h
  have hperforms : performsAtVerdict (readRequest f) = true := by
    simpa [performsAtVerdict, imp_iff_not_or] using hbody
  simp [State.verdictPerforms, htake, isShort_eq_false h4, hj, hperforms]

/-- The command of the operation that byte 0 of the block names is the verdict. -/
theorem State.atVerdict.exec_command (h : s.atVerdict f u i) {code : Byte} {op : MgmtOp} {c : PerformedAt → Instr}
    (hc : (code, op, c) ∈ mgmtCommands) (hcode : (readRequest f).params.head? = some code) : exec (c .verdict) s = exec .verdict s := by
  obtain ⟨hop, hexec⟩ := exec_mgmtCommand hc .verdict s
  have hperf : s.verdictPerforms = some op := by
    rw [h.verdictPerforms, opNamedBy, hcode]
    exact hop
  rw [hexec, event, performanceEvent, if_pos hperf]
  rfl

end

/-! ## The three checks of R139 -/

section
variable {s : State} {i : EntryIndex} {x : Exchange} {n : InitiatorId}

theorem State.mayManage_iff : s.mayManage n = true ↔ s.bootstrap = true ∨ s.hasMgmtRight n = true := Bool.or_eq_true_iff

theorem State.ownsLease_iff : s.ownsLease n = true ↔ ∃ l, s.lease = some l ∧ l.owner = n := by
  simp [State.ownsLease, Option.any_eq_true]

theorem operationResult_of_unnamed (h : x.namedOp = none) : operationResult s i x = refuseOp s 0xE8#8 := by
  rw [operationResult, h]
  rfl

section
variable {op : MgmtOp} (h : x.namedOp = some op)
include h

theorem operationResult_of_notPermitted (hm : s.mayManage x.initiator = false) : operationResult s i x = refuseOp s 0xE7#8 := by
  simp only [operationResult, h, hm]
  rfl

theorem operationResult_of_notOwner (hm : s.mayManage x.initiator = true) (hl : op.leaseClass = true)
    (ho : s.ownsLease x.initiator = false) : operationResult s i x = refuseOp s 0xE0#8 := by
  simp only [operationResult, h, hm, hl, ho]
  rfl

theorem operationResult_of_passed (hm : s.mayManage x.initiator = true) (ho : op.leaseClass = false ∨ s.ownsLease x.initiator = true) :
    operationResult s i x = carryOut s i x (requestParams x.requestBytes) op := by
  have hpass : (op.leaseClass && !s.ownsLease x.initiator) = false := by
    obtain ho | ho := ho <;> simp [ho]
  simp [operationResult, h, hm, hpass]

end

end

/-! ## READ_ENTRY and WRITE_ENTRY (R145, R150; log entry 31) -/

section
variable {s : State} {params : List Byte}

theorem opReadEntry_of_unknownTable (h : tableOf (byteAt params 1) = none) : opReadEntry s params = refuseOp s 0xE2#8 := by
  rw [opReadEntry, h]
  rfl

theorem opWriteEntry_of_unknownTable (h : tableOf (byteAt params 1) = none) (body : List Byte) :
    opWriteEntry s params body = refuseOp s 0xE2#8 := by
  rw [opWriteEntry, h]
  rfl

section
variable {t : Table} (h : tableOf (byteAt params 1) = some t)
include h

theorem opReadEntry_of_outOfRange (hn : t.size ≤ (byteAt params 2).toNat) : opReadEntry s params = refuseOp s 0xE2#8 := by
  simp only [opReadEntry, h, if_pos hn]
  rfl

theorem opWriteEntry_of_outOfRange (hn : t.size ≤ (byteAt params 2).toNat) (body : List Byte) :
    opWriteEntry s params body = refuseOp s 0xE2#8 := by
  simp only [opWriteEntry, h, if_pos hn]
  rfl

theorem opReadEntry_of_busy (hn : (byteAt params 2).toNat < t.size) (hbank : byteAt params 3 = 0x01#8) (hr : s.resync ≠ none) :
    opReadEntry s params = refuseOp s 0xE3#8 := by
  simp only [opReadEntry, h, if_neg (Nat.not_le.2 hn), if_pos hbank, Option.isSome_iff_ne_none.2 hr]
  rfl

theorem opWriteEntry_of_busy (hn : (byteAt params 2).toNat < t.size) (hr : s.resync ≠ none) (body : List Byte) :
    opWriteEntry s params body = refuseOp s 0xE3#8 := by
  simp only [opWriteEntry, h, if_neg (Nat.not_le.2 hn), Option.isSome_iff_ne_none.2 hr]
  rfl

/-- Check 3 of R150 stops the body. -/
theorem opWriteEntry_of_badBody (hn : (byteAt params 2).toNat < t.size) (hr : s.resync = none) {body : List Byte}
    (hb : s.stagingBank.withRecord t (byteAt params 2).toNat body = none) : opWriteEntry s params body = refuseOp s 0xE8#8 := by
  simp only [opWriteEntry, h, if_neg (Nat.not_le.2 hn), hr, hb]
  rfl

end

/-! ## READ_EXCHANGE, HOLD_DECIDE and END_EXCHANGE (R89, R96, R145) -/

theorem opReadExchange_of_outOfRange (h : 64 ≤ (byteAt params 1).toNat) : opReadExchange s params = refuseOp s 0xE2#8 :=
  dif_neg (Nat.not_lt.2 h)

theorem opHoldDecide_of_badIndex (h : 64 ≤ (byteAt params 1).toNat ∨ 3 < (byteAt params 2).toNat) :
    opHoldDecide s params = refuseOp s 0xE2#8 := by
  unfold opHoldDecide
  by_cases hn : (byteAt params 1).toNat < 64
  · rw [dif_pos hn, if_pos (h.resolve_left (Nat.not_le.2 hn))]; rfl
  · rw [dif_neg hn]; rfl

theorem opEndExchange_of_badIndex (i : EntryIndex) (h : 64 ≤ (byteAt params 1).toNat ∨ 3 < (byteAt params 2).toNat) :
    opEndExchange s i params = refuseOp s 0xE2#8 := by
  unfold opEndExchange
  by_cases hn : (byteAt params 1).toNat < 64
  · rw [dif_pos hn, if_pos (h.resolve_left (Nat.not_le.2 hn))]; rfl
  · rw [dif_neg hn]; rfl

section
variable {i : EntryIndex} (hn : (byteAt params 1).toNat < 64) (hinc : (byteAt params 2).toNat ≤ 3)
include hn hinc

theorem opHoldDecide_of_free (he : (s.entry ⟨_, hn⟩).exchange = none) : opHoldDecide s params = refuseOp s 0xE5#8 := by
  simp only [opHoldDecide, dif_pos hn, if_neg (Nat.not_lt.2 hinc), he]
  rfl

theorem opHoldDecide_of_inUse {y : Exchange} (he : (s.entry ⟨_, hn⟩).exchange = some y) :
    opHoldDecide s params = if y.state ≠ .held ∨ (s.entry ⟨_, hn⟩).inc.val ≠ (byteAt params 2).toNat then refuseOp s 0xE5#8
      else decideHeld s ⟨_, hn⟩ y (byteAt params 3) := by
  simp only [opHoldDecide, dif_pos hn, if_neg (Nat.not_lt.2 hinc), he]
  rfl

theorem opEndExchange_of_own (hown : (⟨_, hn⟩ : EntryIndex) = i) : opEndExchange s i params = refuseOp s 0xE2#8 := by
  simp only [opEndExchange, dif_pos hn, if_neg (Nat.not_lt.2 hinc), if_pos (congrArg Fin.val hown)]
  rfl

theorem opEndExchange_of_free (hown : (⟨_, hn⟩ : EntryIndex) ≠ i) (he : (s.entry ⟨_, hn⟩).exchange = none) :
    opEndExchange s i params = refuseOp s 0xE5#8 := by
  simp only [opEndExchange, dif_pos hn, if_neg (Nat.not_lt.2 hinc), if_neg (mt Fin.ext hown), he]
  rfl

theorem opEndExchange_of_inUse (hown : (⟨_, hn⟩ : EntryIndex) ≠ i) {y : Exchange} (he : (s.entry ⟨_, hn⟩).exchange = some y) :
    opEndExchange s i params
      = if (s.entry ⟨_, hn⟩).inc.val ≠ (byteAt params 2).toNat ∨ y.closed = true ∨ y.parked ≠ none then refuseOp s 0xE5#8
        else { state := s.endByManagement ⟨_, hn⟩ y, answer := endAnswer y (s.refOf ⟨_, hn⟩), code := 0x00#8 } := by
  simp only [opEndExchange, dif_pos hn, if_neg (Nat.not_lt.2 hinc), if_neg (mt Fin.ext hown), he, Option.isSome_iff_ne_none]
  rfl

end

end

/-! ## The statement -/

/-- Settles O45: the verdict performs the operation that the block names; each check is a branch of its operation, and each is passed before the
next is asked. -/
theorem operationChecksInOrder : Obligations.OperationChecksInOrder := by
  refine ⟨fun s u f i h => ⟨h.exec_verdict_eq, fun code op c hc hcode => h.exec_command hc hcode⟩, ?_, ?_⟩
  · intro s i x params b1 b2 does refused
    refine ⟨fun h => ⟨opReadEntry_of_unknownTable h, opWriteEntry_of_unknownTable h _⟩, fun t h => ⟨fun hn => ?_, fun hn => ⟨fun hr => ?_, ?_⟩⟩,
      opReadExchange_of_outOfRange, fun h => ⟨opHoldDecide_of_badIndex h, opEndExchange_of_badIndex i h⟩, ?_⟩
    · exact ⟨opReadEntry_of_outOfRange h hn, opWriteEntry_of_outOfRange h hn _⟩
    · exact ⟨opWriteEntry_of_busy h hn hr _, fun hbank => opReadEntry_of_busy h hn hbank hr⟩
    · exact fun hr hb => opWriteEntry_of_badBody h hn hr hb
    · intro hn hinc j e
      refine ⟨opEndExchange_of_own hn hinc, fun he => ⟨opHoldDecide_of_free hn hinc he, fun hown => opEndExchange_of_free hn hinc hown he⟩,
        fun y he => ⟨fun h => ?_, fun hown h => ?_⟩⟩
      · exact (opHoldDecide_of_inUse hn hinc he).trans (if_pos h)
      · exact (opEndExchange_of_inUse hn hinc hown he).trans (if_pos h)
  · intro s i x
    refine ⟨operationResult_of_unnamed, fun op h => ⟨fun hb hr => ?_, fun hm => ⟨fun hl hall => ?_, fun ho => ?_⟩⟩⟩
    · exact operationResult_of_notPermitted h (Bool.or_eq_false_iff.2 ⟨hb, hr⟩)
    · refine operationResult_of_notOwner h (State.mayManage_iff.2 hm) hl (Bool.eq_false_iff.2 fun hown => ?_)
      obtain ⟨l, hlease, howner⟩ := State.ownsLease_iff.1 hown
      exact hall l hlease howner
    · exact operationResult_of_passed h (State.mayManage_iff.2 hm) (ho.imp_right State.ownsLease_iff.2)

end Sys2Proof.Machine
end

section
/-! HOLD_DECIDE, ALERT_ACK, END_EXCHANGE and WARM_RESET, carried out for the lease owner (R89, R90, R96 to R99, R147, R161; log entry 9). -/

namespace Sys2Proof.Machine

/-! ## The command of an operation that passes its checks (R139, R164) -/

section
variable {s u : State} {f params : List Byte} {i : EntryIndex}

/-- A block of four bytes with good arguments names its operation where no body comes. -/
theorem namedOp_managementExchange {code : Byte} {op : MgmtOp} (hparams : (readRequest f).params = code :: params) (hlen : params.length = 3)
    (hop : mgmtOpOf code = some op) (hargs : op.argsOk (code :: params) = true) (hne : op ≠ .writeEntry)
    (hbody : ¬((readRequest f).direction = .dirOut ∧ 0 < (readRequest f).length)) : (managementExchange f).namedOp = some op := by
  have hbytes : requestParams (managementExchange f).requestBytes = code :: params := hparams
  rw [Exchange.namedOp_eq_some_iff, hbytes]
  refine ⟨by simp [hlen], hop, hargs, ?_⟩
  rw [MgmtOp.bodyOk, if_neg hne]
  rw [Bool.not_eq_true']
  exact decide_eq_false hbody

/-- Passed, the operation is carried out on the state with its own entry opened. -/
theorem State.atVerdict.exec_carryOut (h : s.atVerdict f u i) {code : Byte} {op : MgmtOp} {c : PerformedAt → Instr}
    (hc : (code, op, c) ∈ mgmtCommands) (hparams : (readRequest f).params = code :: params) (hlen : params.length = 3)
    (hargs : op.argsOk (code :: params) = true) (hne : op ≠ .writeEntry)
    (hmay : (u.opened f i).mayManage (readRequest f).initiator = true)
    (hown : op.leaseClass = false ∨ (u.opened f i).ownsLease (readRequest f).initiator = true) :
    exec (c .verdict) s = State.concluded f i (carryOut (u.opened f i) i (managementExchange f) (code :: params) op) := by
  have ⟨_, _, _, _, hbody⟩ := h
  have hnamed := namedOp_managementExchange hparams hlen (exec_mgmtCommand hc .verdict s).1 hargs hne hbody
  have hbytes : requestParams (managementExchange f).requestBytes = code :: params := hparams
  rw [h.exec_command hc (by rw [hparams]; rfl), h.exec_verdict_eq, operationResult_of_passed hnamed hmay hown, hbytes]

end

section
variable {s : State} {j : EntryIndex} {y : Exchange}

/-- Index and incarnation of an answer, read from the block that named the entry (13.2). -/
theorem State.refOf_bytes {b1 b2 : Byte} (hj : j.val = b1.toNat) (hinc : (s.entry j).inc.val = b2.toNat) :
    BitVec.ofNat 8 (s.refOf j).index.val = b1 ∧ BitVec.ofNat 8 (s.refOf j).inc.val = b2 := by
  have h1 : (s.refOf j).index.val = b1.toNat := hj
  have h2 : (s.refOf j).inc.val = b2.toNat := hinc
  rw [h1, h2]
  simp

/-! ## HOLD_DECIDE (R96 to R99) -/

theorem State.keptTimeout_of_place {place : HoldPlace} (h : s.holdQueue.find? (fun k => k.entry.index = j) = some place) :
    s.keptTimeout j = place.timeoutMs := by
  rw [State.keptTimeout, h]
  rfl

theorem decideHeld_reject : decideHeld s j y 0x02#8
    = { state := s.closeAndFree j y 0xD1#8, answer := decideAnswer 0x03#8 (s.refOf j), code := 0x00#8 } := rfl

theorem decideHeld_release {g : Routing} {request : List Byte} (hg : y.routing = some g) (hq : y.storedRequest = some (.inCells request)) :
    decideHeld s j y 0x01#8 = if (s.port (targetPort g.link)).state = .up then
        { state := s.releaseHeld j y g request, answer := decideAnswer 0x01#8 (s.refOf j), code := 0x00#8 }
      else { state := s.closeAndFree j y 0xD0#8, answer := decideAnswer 0x02#8 (s.refOf j), code := 0x00#8 } := by
  simp only [decideHeld, hg, hq, State.isUp_iff]
  rfl

/-- The state whose hold queue has lost the place of entry j (R92, R97). -/
def State.withoutPlace (s : State) (j : EntryIndex) : State := { s with holdQueue := s.holdQueue.filter fun h => h.entry.index ≠ j }

/-- The exchange that a release issues (R97). -/
def State.releasedExchange (s : State) (j : EntryIndex) (y : Exchange) : Exchange :=
  { y with state := .issued, storedRequest := some .inQueue, deadline := some { kind := .exchange, due := s.after (s.keptTimeout j) } }

/-- The descriptor of a held REQUEST, rewritten in its own cells (R97). -/
def releasedRequest (r : EntryRef) (g : Routing) (request : List Byte) : Descriptor :=
  { content := .stored (rewrittenRequest r g (readRequest request)) (cellsFor request.length), entry := some r }

theorem State.releaseHeld_eq (s : State) (j : EntryIndex) (y : Exchange) (g : Routing) (request : List Byte) :
    s.releaseHeld j y g request = ((s.withoutPlace j).setExchange j (s.releasedExchange j y)).enqueue (targetPort g.link)
      (releasedRequest (s.refOf j) g request) := by
  have href : ((s.withoutPlace j).setExchange j (s.releasedExchange j y)).refOf j = s.refOf j := State.setExchange_refOf ..
  rw [← href]
  rfl

/-- A release to a link that is UP: the entry goes on in ISSUED, its place is gone, and the REQUEST waits toward the target. -/
theorem State.releaseHeld_goesOn {g : Routing} (hup : (s.port (targetPort g.link)).state = .up) (y : Exchange) (request : List Byte) :
    (s.withoutPlace j).GoesOn (s.releaseHeld j y g request) j (s.releasedExchange j y) (targetPort g.link)
      (releasedRequest (s.refOf j) g request) := by
  rw [State.releaseHeld_eq]
  exact State.setExchange_enqueue_goesOn (s := s.withoutPlace j) (.inl hup) j _

/-- HOLD_DECIDE on an entry in HELD at its incarnation comes to its decision (R96). -/
theorem opHoldDecide_of_held {code b1 b2 decision : Byte} (h : b1.toNat < 64) (hy : (s.entry ⟨b1.toNat, h⟩).exchange = some y)
    (hheld : y.state = .held) (hinc : (s.entry ⟨b1.toNat, h⟩).inc.val = b2.toNat) :
    opHoldDecide s [code, b1, b2, decision] = decideHeld s ⟨b1.toNat, h⟩ y decision := by
  have hle : b2.toNat ≤ 3 := by rw [← hinc]; exact Nat.le_of_lt_succ (Fin.isLt _)
  have hpass : ¬(y.state ≠ .held ∨ (s.entry ⟨b1.toNat, h⟩).inc.val ≠ b2.toNat) := by simp [hheld, hinc]
  exact (opHoldDecide_of_inUse (params := [code, b1, b2, decision]) h hle hy).trans (if_neg hpass)

theorem decideAnswer_refOf {b1 b2 : Byte} (outcome : Byte) (hj : j.val = b1.toNat) (hinc : (s.entry j).inc.val = b2.toNat) :
    decideAnswer outcome (s.refOf j) = [outcome, b1, b2, 0#8] := by
  obtain ⟨hb1, hb2⟩ := State.refOf_bytes hj hinc
  rw [decideAnswer, hb1, hb2]

/-! ## ALERT_ACK (R161) -/

theorem sequence_eq_iff (n : BitVec 16) (b1 b2 : Byte) (rest : List Byte) (code : Byte) :
    n.toNat = fieldAt (code :: b1 :: b2 :: rest) 1 2 ↔ n = BitVec.ofNat 16 (b1.toNat * 256 + b2.toNat) := by
  have hfield : fieldAt (code :: b1 :: b2 :: rest) 1 2 = b1.toNat * 256 + b2.toNat := by simp [fieldAt, beNat]
  rw [hfield, ← BitVec.toNat_inj, BitVec.toNat_ofNat]
  omega

/-- The acknowledged batch leaves with its records and its descriptor, which holds no cell. -/
theorem opAlertAck_of_sequence {params : List Byte} {b : Batch} (hb : s.batch = some b) (hn : b.sequence.toNat = fieldAt params 1 2) :
    opAlertAck s params = {
      state := { s with
        alerts := s.alerts.drop b.size, batch := none, portI := { s.portI with egress := s.portI.egress.filter fun d => !d.isAlert } },
      answer := [], code := 0x00#8 } := by
  simp only [opAlertAck, hb, if_pos hn, State.withdraw, State.release, queueCells_alerts]
  rfl

theorem opAlertAck_of_other {params : List Byte} (h : ∀ b, s.batch = some b → b.sequence.toNat ≠ fieldAt params 1 2) :
    opAlertAck s params = { state := s, answer := [], code := 0xE6#8 } := by
  unfold opAlertAck
  cases hb : s.batch with
  | none => rfl
  | some b => exact if_neg (h b hb)

/-! ## END_EXCHANGE (R90) -/

/-- Whether an abort was started or the entry freed, the core and the other entries are as they were. -/
theorem State.endedWith.core_others {t : State} {o : AbortOrigin} {code : Byte} {n : Nat} (h : s.endedWith t j y o code n) :
    s.sameCore t ∧ s.sameEntriesBut t j := by
  by_cases hw : y.awaitsTarget
  · obtain ⟨g, hg, -⟩ := (Option.any_eq_true _ _).1 hw.1
    obtain ⟨-, hothers, -, hcore, -⟩ := h.1 g hg hw
    exact ⟨hcore, hothers⟩
  · obtain ⟨⟨-, hothers, -⟩, hcore, -⟩ := h.2 hw
    exact ⟨hcore, hothers⟩

/-- An entry in ABORTING stays there, closed, under its grace deadline (R90). -/
theorem State.endByManagement_of_aborting (ha : y.state = .aborting) :
    s.GoesOn (s.endByManagement j y) j { y with origin := some .management, closed := true } .i (bridgeStatus (s.refOf j) y 0xD7#8) := by
  have heq : s.endByManagement j y = (s.setExchange j { y with origin := some .management, closed := true }).enqueue .i
      (bridgeStatus (s.refOf j) y 0xD7#8) := by
    rw [State.endByManagement, if_pos ha, State.queueStatus, State.ofEntry, State.setExchange_refOf]
    rfl
  rw [heq]
  exact State.setExchange_enqueue_goesOn (.inr rfl) j _

theorem State.endByManagement_of_not_aborting (ha : y.state ≠ .aborting) :
    s.endByManagement j y = s.endWithStatus j y 0xD7#8 .management :=
  if_neg ha

/-- An exchange in its abort is closed where it is; any other ends as by every STATUS of the bridge (R90). -/
theorem State.endByManagement_frame (hy : (s.entry j).exchange = some y) :
    let w := s.endByManagement j y
    s.sameCore w ∧ s.sameAlerts w ∧ s.sameEntriesBut w j
      ∧ (y.state = .aborting → w.entry j = { s.entry j with exchange := some { y with origin := some .management, closed := true } }
          ∧ s.queuedOn w .i [bridgeStatus (s.refOf j) y 0xD7#8] ∧ s.sameLists w ∧ w.freeCells = s.freeCells)
      ∧ (y.state ≠ .aborting → s.endedWith w j y .management 0xD7#8 0) := by
  by_cases ha : y.state = .aborting
  · have hgoes := State.endByManagement_of_aborting (s := s) (j := j) ha
    exact ⟨hgoes.core, hgoes.alerts, hgoes.others, fun _ => ⟨hgoes.entry, hgoes.queued, hgoes.lists, hgoes.cells⟩, fun h => absurd ha h⟩
  · rw [State.endByManagement_of_not_aborting ha]
    have hends := State.endWithStatus_endedWith hy 0xD7#8 .management
    exact ⟨hends.core_others.1, s.endWithStatus_sameAlerts .., hends.core_others.2, fun h => absurd h ha, fun _ => hends⟩

theorem endAnswer_refOf {b1 b2 : Byte} (y : Exchange) (hj : j.val = b1.toNat) (hinc : (s.entry j).inc.val = b2.toNat) :
    endAnswer y (s.refOf j) = [y.state.code, b1, b2, 0#8] := by
  obtain ⟨hb1, hb2⟩ := State.refOf_bytes hj hinc
  rw [endAnswer, hb1, hb2]

/-- END_EXCHANGE of another entry's open exchange, at its incarnation and without a parked STATUS, is carried out (R89, R90). -/
theorem opEndExchange_of_open {i : EntryIndex} {code b1 b2 b3 : Byte} (h : b1.toNat < 64) (hown : (⟨b1.toNat, h⟩ : EntryIndex) ≠ i)
    (hy : (s.entry ⟨b1.toNat, h⟩).exchange = some y) (hinc : (s.entry ⟨b1.toNat, h⟩).inc.val = b2.toNat) (hopen : y.closed = false)
    (hk : y.parked = none) : opEndExchange s i [code, b1, b2, b3]
      = { state := s.endByManagement ⟨b1.toNat, h⟩ y, answer := [y.state.code, b1, b2, 0#8], code := 0x00#8 } := by
  have hle : b2.toNat ≤ 3 := by rw [← hinc]; exact Nat.le_of_lt_succ (Fin.isLt _)
  have hpass : ¬((s.entry ⟨b1.toNat, h⟩).inc.val ≠ b2.toNat ∨ y.closed = true ∨ y.parked ≠ none) := by simp [hinc, hopen, hk]
  rw [← endAnswer_refOf y (s := s) (j := ⟨b1.toNat, h⟩) rfl hinc]
  exact (opEndExchange_of_inUse (params := [code, b1, b2, b3]) h hle hown hy).trans (if_neg hpass)

end

/-! ## The statement -/

/-- Settles O51: each of the four operations passes its checks and is carried out; what it leaves is what the operations it is made of leave. -/
theorem ownerOperationsComplete : Obligations.OwnerOperationsComplete := by
  intro s u f i hat q v hmay hown
  refine ⟨?_, fun b1 b2 hparams => ?_, ?_, fun hparams => ?_⟩
  · intro b1 b2 decision h y g request hparams j hy hheld hinc hg hq hup
    have hresult : decision = 0x01#8 ∨ decision = 0x02#8 →
        exec (.holdDecide .verdict) s = State.concluded f i (decideHeld v j y decision) := by
      intro hd
      have hargs : MgmtOp.argsOk .holdDecide [0x0B#8, b1, b2, decision] = true := by obtain rfl | rfl := hd <;> rfl
      rw [← opHoldDecide_of_held (code := 0x0B#8) h hy hheld hinc]
      exact hat.exec_carryOut (op := .holdDecide) (c := .holdDecide) (by simp [mgmtCommands]) hparams rfl hargs (by decide) hmay (.inr hown)
    have hanswer := fun outcome => decideAnswer_refOf (s := v) (j := j) (b1 := b1) outcome rfl hinc
    refine ⟨?_, ?_, ?_⟩
    · rintro rfl
      have hends := State.closeAndFree_endsWith (y := y) hy 0xD1#8
      refine ⟨_, (hresult (.inr rfl)).trans ?_, hends.freed, hends.core, hends.alerts, hends.cells, hends.queued⟩
      rw [decideHeld_reject, hanswer]
    · rintro rfl hdown
      have hends := State.closeAndFree_endsWith (y := y) hy 0xD0#8
      refine ⟨_, (hresult (.inl rfl)).trans ?_, hends.freed, hends.core, hends.alerts, hends.cells, hends.queued⟩
      rw [decideHeld_release hg hq, if_neg hdown, hanswer]
    · rintro rfl htarget place hplace
      have hgoes := State.releaseHeld_goesOn (j := j) htarget y request
      rw [State.releasedExchange, State.keptTimeout_of_place hplace] at hgoes
      refine ⟨_, (hresult (.inl rfl)).trans ?_, hgoes.entry, hgoes.others, hgoes.lists.1, hgoes.lists.2, hgoes.core, hgoes.alerts,
        hgoes.cells, hgoes.queued⟩
      rw [decideHeld_release hg hq, if_pos htarget, hanswer]
  · have hresult : exec (.alertAck .verdict) s = State.concluded f i (opAlertAck v [0x0C#8, b1, b2, 0#8]) :=
      hat.exec_carryOut (op := .alertAck) (c := .alertAck) (by simp [mgmtCommands]) hparams rfl rfl (by decide) hmay (.inr hown)
    refine ⟨fun b hb hseq => ?_, fun hother => ?_⟩
    · rw [hresult, opAlertAck_of_sequence hb ((sequence_eq_iff ..).2 hseq)]
    · rw [hresult, opAlertAck_of_other fun b hb => mt (sequence_eq_iff ..).1 (hother b hb)]
  · intro b1 b2 h y hparams j hj hy hinc hopen hk hup
    refine ⟨v.endByManagement j y, ?_, State.endByManagement_frame hy⟩
    rw [← opEndExchange_of_open (code := 0x0D#8) (b3 := 0#8) h hj hy hinc hopen hk]
    exact hat.exec_carryOut (op := .endExchange) (c := .endExchange) (by simp [mgmtCommands]) hparams rfl rfl (by decide) hmay (.inr hown)
  · exact hat.exec_carryOut (op := .warmReset) (c := .warmReset) (by simp [mgmtCommands]) hparams rfl rfl (by decide) hmay (.inr hown)

end Sys2Proof.Machine
end

section
/-! The hold queue under every update of the part: which entries are in HELD, and what a held exchange holds (R92, R94). -/

namespace Sys2Proof.Machine

variable {s t : State} {i : EntryIndex} {x y : Exchange}

/-! ## What a held exchange is not (R94) -/

theorem Exchange.heldOk_of_not_held (h : x.state ≠ .held) : x.heldOk := fun hx => absurd hx h

/-- A command that has been sent is not held. -/
theorem Exchange.heldOk.not_held_of_sent {g : Routing} (h : x.heldOk) (hg : x.routing = some g) (hsent : g.commandSent = true) :
    x.state ≠ .held := by
  intro hx
  obtain ⟨-, -, -, -, hr, -⟩ := h hx
  simp [hg, hsent] at hr

/-- No target may act for a held exchange. -/
theorem Exchange.heldOk.not_held_of_targetActive {g : Routing} (h : x.heldOk) (hg : x.targetActive = some g) : x.state ≠ .held := by
  obtain ⟨hr, hawaits⟩ := (x.targetActive_eq g).1 hg
  exact h.not_held_of_sent hr (by simpa [hr] using hawaits.1)

/-- A held exchange waits for no closing frame behind its DATA: it has no parked STATUS, snapshot or answer. -/
theorem Exchange.heldOk.closing_none (h : x.heldOk) (hx : x.state = .held) : x.parked = none ∧ x.snapshot = none ∧ x.answer = none := by
  obtain ⟨-, -, -, -, -, -, -, hclosing⟩ := h hx
  exact hclosing

/-- A transmitted run moves bytes of a snapshot or an answer, and a held exchange has neither (R106). -/
theorem Exchange.heldOk.withRun (h : x.heldOk) (payload : List Byte) : (x.withRun payload).heldOk := by
  unfold Exchange.withRun
  split
  · next hrun =>
    refine Exchange.heldOk_of_not_held fun hx => ?_
    obtain ⟨-, hsnapshot, hanswer⟩ := h.closing_none hx
    simp [hsnapshot, hanswer] at hrun
  · exact h

theorem Exchange.withRun_state (x : Exchange) (payload : List Byte) : (x.withRun payload).state = x.state := by
  unfold Exchange.withRun
  split <;> rfl

/-! ## Reading the invariant -/

/-- Entry i is not in HELD. -/
def State.NotHeld (s : State) (i : EntryIndex) : Prop := ∀ x, (s.entry i).exchange = some x → x.state ≠ .held

theorem State.notHeld_of_free (h : (s.entry i).exchange = none) : s.NotHeld i := fun x hx => by rw [h] at hx; cases hx

theorem State.notHeld_of_exchange (h : (s.entry i).exchange = some x) (hx : x.state ≠ .held) : s.NotHeld i :=
  fun y hy => by rw [h, Option.some.injEq] at hy; exact hy ▸ hx

theorem State.NotHeld.congr (h : s.NotHeld i) (he : t.entry i = s.entry i) : t.NotHeld i := by
  unfold State.NotHeld
  rw [he]
  exact h

theorem State.exchangeAt_congr_entry {r : EntryRef} (h : t.entry r.index = s.entry r.index) : t.exchangeAt r = s.exchangeAt r := by
  unfold State.exchangeAt
  rw [h]

theorem State.holdsOk.heldOk (hs : s.holdsOk) (h : (s.entry i).exchange = some x) : x.heldOk := hs.1 i x h

/-- No place names an entry that is not in HELD. -/
theorem State.holdsOk.index_ne (hs : s.holdsOk) (hi : s.NotHeld i) {h : HoldPlace} (hh : h ∈ s.holdQueue) : h.entry.index ≠ i := by
  rintro rfl
  obtain ⟨x, hx, hheld⟩ := (Option.any_eq_true _ _).1 (hs.2.1 h hh)
  exact hi x (State.exchangeAt_exchange hx) (by simpa using hheld)

/-! ## Changes of one entry -/

/-- The invariant reads the entries and the hold queue alone. -/
theorem State.holdsOk.congr (hs : s.holdsOk) (he : t.entries = s.entries) (hq : t.holdQueue = s.holdQueue) : t.holdsOk := by
  unfold State.holdsOk State.exchangeAt State.refOf at hs ⊢
  simpa only [State.entry_congr he, hq] using hs

/-- With no entry in HELD the hold queue is empty. -/
theorem State.holdsOk_of_none_held (h : ∀ i, t.NotHeld i) (hq : t.holdQueue = []) : t.holdsOk := by
  unfold State.holdsOk
  rw [hq]
  exact ⟨fun i x hx => Exchange.heldOk_of_not_held (h i x hx), by simp, fun i x hx hheld => absurd hheld (h i x hx), by simp, by simp⟩

/-- Entry i is changed, and not in HELD afterwards; its place, if it had one, is gone. -/
theorem State.holdsOk.of_entry (hs : s.holdsOk) (hothers : ∀ j, j ≠ i → t.entry j = s.entry j) (hi : t.NotHeld i)
    (hq : t.holdQueue = s.holdQueue.filter fun h => h.entry.index ≠ i) : t.holdsOk := by
  obtain ⟨hheld, hplaces, hqueued, hnodup, hroom⟩ := hs
  have hsub : t.holdQueue.Sublist s.holdQueue := hq ▸ List.filter_sublist
  have hmem : ∀ {h}, h ∈ t.holdQueue ↔ h ∈ s.holdQueue ∧ h.entry.index ≠ i := by simp [hq]
  have hne : ∀ {j y}, (t.entry j).exchange = some y → y.state = .held → j ≠ i := by
    rintro j y hy hj rfl
    exact hi y hy hj
  refine ⟨fun j y hy hj => ?_, fun h hh => ?_, fun j y hy hj => ?_, hnodup.sublist (hsub.map _), hsub.length_le.trans hroom⟩
  · rw [hothers j (hne hy hj)] at hy
    exact hheld j y hy hj
  · obtain ⟨hold, hindex⟩ := hmem.1 hh
    rw [State.exchangeAt_congr_entry (hothers _ hindex)]
    exact hplaces h hold
  · have hji := hne hy hj
    rw [hothers j hji] at hy
    obtain ⟨h, hh, href⟩ := List.mem_map.1 (hqueued j y hy hj)
    have hindex : h.entry.index = j := congrArg EntryRef.index href
    refine List.mem_map.2 ⟨h, hmem.2 ⟨hh, hindex ▸ hji⟩, ?_⟩
    rw [href, State.refOf, State.refOf, hothers j hji]

/-- An entry that is not in HELD takes another record that is not. -/
theorem State.holdsOk.setEntry (hs : s.holdsOk) (hi : s.NotHeld i) {e : Entry} (he : ∀ y, e.exchange = some y → y.state ≠ .held) :
    (s.setEntry i e).holdsOk := by
  refine hs.of_entry (i := i) (fun j hj => State.setEntry_entry_ne _ _ hj) (fun y hy => ?_) ?_
  · rw [State.setEntry_entry_self] at hy
    exact he y hy
  · refine (List.filter_eq_self.2 fun h hh => ?_).symm
    exact decide_eq_true (hs.index_ne hi hh)

theorem State.holdsOk.setExchange (hs : s.holdsOk) (hi : s.NotHeld i) (hy : y.state ≠ .held) : (s.setExchange i y).holdsOk :=
  hs.setEntry hi fun _ h => Option.some.inj h ▸ hy

theorem State.holdsOk.allocate (hs : s.holdsOk) (hfree : (s.entry i).exchange = none) (hy : y.state ≠ .held) : (s.allocate i y).holdsOk :=
  hs.setEntry (State.notHeld_of_free hfree) fun _ h => Option.some.inj h ▸ hy

/-- An exchange takes a new record in the state it is in. -/
theorem State.holdsOk.rewrite (hs : s.holdsOk) (hx : (s.entry i).exchange = some x) (hstate : y.state = x.state) (hy : y.heldOk) :
    (s.setExchange i y).holdsOk := by
  obtain ⟨hheld, hplaces, hqueued, hnodup, hroom⟩ := hs
  refine ⟨fun j z hz => ?_, fun h hh => ?_, fun j z hz hj => ?_, hnodup, hroom⟩
  · rw [State.setExchange_entry] at hz
    split at hz
    · exact Option.some.inj hz ▸ hy
    · exact hheld j z hz
  · have hold := hplaces h hh
    unfold State.exchangeAt at hold ⊢
    rw [State.setExchange_entry]
    split
    · next hi => rw [hi, hx] at hold; simpa [apply_ite, hstate] using hold
    · exact hold
  · rw [State.setExchange_refOf]
    rw [State.setExchange_entry] at hz
    split at hz
    · next hi => subst hi; exact hqueued _ x hx (hstate ▸ Option.some.inj hz ▸ hj)
    · exact hqueued j z hz hj

theorem State.holdsOk.freeEntry (hs : s.holdsOk) (i : EntryIndex) : (s.freeEntry i).holdsOk := by
  cases hx : (s.entry i).exchange with
  | none => unfold State.freeEntry; rw [hx]; exact hs
  | some x =>
    obtain ⟨hself, hothers, hplace, -⟩ := State.freeEntry_freed hx
    exact hs.of_entry hothers (State.notHeld_of_free (by rw [hself])) hplace

/-- A hold: a FREE entry takes a held exchange, and its place joins the tail of a queue with room (R54, R92, R94). -/
theorem State.holdsOk.hold (hs : s.holdsOk) (hfree : (s.entry i).exchange = none) (hx : x.heldOk) (hheld : x.state = .held)
    (hroom : s.holdQueue.length < Config.holdPlaces) {place : HoldPlace} (hplace : place.entry = (s.allocate i x).refOf i) :
    ({ s.allocate i x with holdQueue := s.holdQueue ++ [place] } : State).holdsOk := by
  have hnew := fun {h} => hs.index_ne (i := i) (h := h) (State.notHeld_of_free hfree)
  have hindex : place.entry.index = i := by rw [hplace]; rfl
  obtain ⟨hheldOk, hplaces, hqueued, hnodup, -⟩ := hs
  refine ⟨fun j y hy => ?_, fun h hh => ?_, fun j y hy hj => ?_, ?_, ?_⟩
  · change ((s.allocate i x).entry j).exchange = some y at hy
    by_cases hji : j = i
    · rw [hji, State.allocate_entry_self] at hy; exact Option.some.inj hy ▸ hx
    · rw [State.allocate_entry_ne _ _ hji] at hy; exact hheldOk j y hy
  · change ((s.allocate i x).exchangeAt h.entry).any _ = true
    obtain hh | hh := List.mem_append.1 hh
    · rw [State.exchangeAt_congr_entry (State.allocate_entry_ne _ _ (hnew hh))]; exact hplaces h hh
    · rw [List.mem_singleton.1 hh, hplace]
      simp [State.exchangeAt, State.refOf, State.allocate_entry_self, hheld]
  · change ((s.allocate i x).entry j).exchange = some y at hy
    change (s.allocate i x).refOf j ∈ (s.holdQueue ++ [place]).map HoldPlace.entry
    rw [List.map_append, List.mem_append]
    by_cases hji : j = i
    · exact .inr (by simp [hplace, hji])
    · rw [State.allocate_entry_ne _ _ hji] at hy
      refine .inl ?_
      rw [State.refOf, State.allocate_entry_ne _ _ hji]
      exact hqueued j y hy hj
  · change ((s.holdQueue ++ [place]).map fun h => h.entry.index).Nodup
    rw [List.map_append, List.nodup_append]
    refine ⟨hnodup, by simp, ?_⟩
    simp only [List.mem_map, List.map_cons, List.map_nil, List.mem_singleton]
    rintro a ⟨h, hh, rfl⟩ b rfl
    rw [hindex]
    exact hnew hh
  · change (s.holdQueue ++ [place]).length ≤ _
    rw [List.length_append]
    exact hroom

/-! ## Updates that touch neither the entries nor the hold queue -/

theorem State.holdsOk.setPort (hs : s.holdsOk) (p : Port) (r : PortRecord) : (s.setPort p r).holdsOk := hs.congr (by simp) (by simp)
theorem State.holdsOk.release (hs : s.holdsOk) (n : Nat) : (s.release n).holdsOk := hs.congr rfl rfl
theorem State.holdsOk.takeCells (hs : s.holdsOk) (n : Nat) : (s.takeCells n).holdsOk := hs.congr rfl rfl
theorem State.holdsOk.discard (hs : s.holdsOk) (f : List Byte) : (s.discard f).holdsOk := hs.congr rfl rfl
theorem State.holdsOk.post (hs : s.holdsOk) (a : Alert) : (s.post a).holdsOk := hs.congr (by simp) (by simp)
theorem State.holdsOk.enqueue (hs : s.holdsOk) (p : Port) (d : Descriptor) : (s.enqueue p d).holdsOk := hs.congr (by simp) (by simp)
theorem State.holdsOk.withdraw (hs : s.holdsOk) (p : Port) (g : Descriptor → Bool) : (s.withdraw p g).holdsOk := hs.congr (by simp) (by simp)
theorem State.holdsOk.setStaging (hs : s.holdsOk) (b : Bank) : (s.setStaging b).holdsOk := hs.congr (by simp) (by simp)
theorem State.holdsOk.settle (hs : s.holdsOk) : s.settle.holdsOk := hs.congr (by simp) (by simp)

theorem State.holdsOk.enqueueAll (hs : s.holdsOk) (p : Port) (ds : List Descriptor) : (s.enqueueAll p ds).holdsOk := by
  induction ds generalizing s with
  | nil => exact hs
  | cons d ds ih => exact ih (hs.enqueue p d)

theorem State.holdsOk.endLease (hs : s.holdsOk) (why : LeaseEnd) : (s.endLease why).holdsOk := by
  refine hs.congr (State.endLease_entries ..) ?_
  unfold State.endLease
  split <;> simp

theorem State.holdsOk.withdrawUnseen (hs : s.holdsOk) (i : EntryIndex) (x : Exchange) : (s.withdrawUnseen i x).holdsOk :=
  hs.congr (State.withdrawUnseen_entries ..) (State.withdrawUnseen_holdQueue ..)

theorem State.takeNext_holdsOk {c : Consumer} {p : Port} {f : List Byte} (h : s.takeNext c p = some (f, t)) (hs : s.holdsOk) : t.holdsOk := by
  obtain ⟨rest, -, rfl⟩ := State.takeNext_some h
  exact hs.setPort ..

theorem State.takeKind_holdsOk {p : Port} {k : Byte} {f : List Byte} (h : s.takeKind p k = some (f, t)) (hs : s.holdsOk) : t.holdsOk :=
  State.takeNext_holdsOk (State.takeKind_some h).2 hs

end Sys2Proof.Machine
end

section
/-! The hold queue through every operation of the part, in the order of the model's files (R92, R94). -/

namespace Sys2Proof.Machine

variable {s t : State} {i : EntryIndex} {x y : Exchange}

/-! ## How an exchange ends -/

theorem State.holdsOk.closeAndFree (hs : s.holdsOk) (i : EntryIndex) (x : Exchange) (code : Byte) : (s.closeAndFree i x code).holdsOk :=
  (hs.enqueue ..).freeEntry i

theorem State.holdsOk.closeManagement (hs : s.holdsOk) (i : EntryIndex) (x : Exchange) (code : Byte) (mark : Bool) :
    (s.closeManagement i x code mark).holdsOk :=
  (hs.enqueue ..).freeEntry i

theorem State.holdsOk.deliverStatus (hs : s.holdsOk) (hi : s.NotHeld i) (hx : x.state ≠ .held) (k : ParkedStatus) :
    (s.deliverStatus i x k).holdsOk :=
  ((hs.setExchange hi (by exact hx)).enqueue ..).freeEntry i

theorem State.holdsOk.enterAborting (hs : s.holdsOk) (hi : s.NotHeld i) (x : Exchange) (g : Routing) (o : AbortOrigin) (closed : Bool) :
    (s.enterAborting i x g o closed).holdsOk :=
  (hs.setExchange hi (by simp)).enqueue ..

/-- A held exchange is closed at once: only one whose target may act goes on, in ABORTING. -/
theorem State.holdsOk.endWithStatus (hs : s.holdsOk) (hx : (s.entry i).exchange = some x) (code : Byte) (o : AbortOrigin) :
    (s.endWithStatus i x code o).holdsOk := by
  unfold State.endWithStatus
  split
  · next g hg =>
    have hi : s.NotHeld i := State.notHeld_of_exchange hx ((hs.heldOk hx).not_held_of_targetActive hg)
    exact (hs.enterAborting hi x g o true).enqueue ..
  · exact (hs.withdrawUnseen i x).closeAndFree ..

theorem State.holdsOk.phaseViolation (hs : s.holdsOk) (hx : (s.entry i).exchange = some x) (d : ViolationDetail) :
    (s.phaseViolation i x d).holdsOk :=
  (hs.endWithStatus hx _ _).post _

theorem State.holdsOk.discard_phaseViolation (hs : s.holdsOk) (hx : (s.entry i).exchange = some x) (f : List Byte) (d : ViolationDetail) :
    ((s.discard f).phaseViolation i x d).holdsOk :=
  (hs.discard f).phaseViolation (by rwa [State.discard_entry]) d

/-- The exchange of a performance is not held, and no more is what becomes of it (R140). -/
theorem conclude_holdsOk {r : OpResult} (hs : r.state.holdsOk) (hi : r.state.NotHeld i) (hx : x.state ≠ .held) :
    (State.conclude i x r).holdsOk := by
  have hwritten : ∀ a b z, Exchange.state z = x.state → (((r.state.takeCells a).release b).setExchange i z).holdsOk := fun a b z hz =>
    ((hs.takeCells a).release b).setExchange (hi.congr (by simp)) (hz ▸ hx)
  simp only [State.conclude]
  split
  · split
    · exact (hwritten _ _ _ (by rfl)).closeManagement ..
    · exact ((hwritten _ _ _ (by rfl)).closeManagement ..).congr rfl rfl
    · exact ((hwritten _ _ _ (by rfl)).closeManagement ..).endLease _
  · exact (hwritten _ _ _ (by rfl)).enqueueAll ..

/-! ## END_EXCHANGE, HOLD_DECIDE and HOLD_LIST -/

theorem State.holdsOk.endByManagement (hs : s.holdsOk) (hx : (s.entry i).exchange = some x) : (s.endByManagement i x).holdsOk := by
  unfold State.endByManagement
  split
  · next ha =>
    have hne : x.state ≠ .held := by rw [ha]; decide
    exact (hs.setExchange (State.notHeld_of_exchange hx hne) (by exact hne)).enqueue ..
  · exact hs.endWithStatus hx _ _

theorem opEndExchange_holdsOk (hs : s.holdsOk) (i : EntryIndex) (params : List Byte) : (opEndExchange s i params).state.holdsOk := by
  simp only [opEndExchange]
  split
  · split
    · exact hs
    · split
      · exact hs
      · split
        · exact hs
        · next y hy =>
          split
          · exact hs
          · exact hs.endByManagement hy
  · exact hs

/-- A release takes the place from the queue and the entry from HELD (R97). -/
theorem State.holdsOk.releaseHeld (hs : s.holdsOk) (i : EntryIndex) (x : Exchange) (g : Routing) (f : List Byte) :
    (s.releaseHeld i x g f).holdsOk := by
  rw [State.releaseHeld_eq]
  refine State.holdsOk.enqueue (hs.of_entry (t := (s.withoutPlace i).setExchange i _) (fun j hj => State.setExchange_entry_ne _ _ hj) ?_ rfl) ..
  exact State.notHeld_of_exchange (x := s.releasedExchange i x) (by rw [State.setExchange_entry_self]) (by simp [State.releasedExchange])

theorem decideHeld_holdsOk (hs : s.holdsOk) (i : EntryIndex) (x : Exchange) (decision : Byte) : (decideHeld s i x decision).state.holdsOk := by
  simp only [decideHeld]
  split
  · exact hs.closeAndFree ..
  · split
    · split
      · exact hs.releaseHeld ..
      · exact hs.closeAndFree ..
    · exact hs

theorem opHoldDecide_holdsOk (hs : s.holdsOk) (params : List Byte) : (opHoldDecide s params).state.holdsOk := by
  simp only [opHoldDecide]
  split
  · split
    · exact hs
    · split
      · exact hs
      · split
        · exact hs
        · exact decideHeld_holdsOk hs ..
  · exact hs

theorem State.holdsOk.expireHold (hs : s.holdsOk) (i : EntryIndex) (x : Exchange) : (s.expireHold i x).holdsOk :=
  (hs.closeAndFree ..).post _

theorem State.holdsOk.expireHolds (hs : s.holdsOk) (places : List HoldPlace) : (s.expireHolds places).holdsOk := by
  induction places generalizing s with
  | nil => exact hs
  | cons k places ih =>
    unfold State.expireHolds
    split
    · exact ih (hs.expireHold ..)
    · exact ih hs

/-! ## The other operations -/

theorem opClaim_holdsOk (hs : s.holdsOk) (caller : InitiatorId) : (opClaim s caller).state.holdsOk := by
  refine hs.congr (opClaim_entries ..) ?_
  unfold opClaim
  split
  · split <;> rfl
  · rfl

theorem opWriteEntry_holdsOk (hs : s.holdsOk) (params body : List Byte) : (opWriteEntry s params body).state.holdsOk := by
  refine hs.congr (opWriteEntry_entries ..) ?_
  simp only [opWriteEntry]
  split
  · rfl
  · split
    · rfl
    · split
      · rfl
      · split
        · rfl
        · exact State.setStaging_holdQueue ..

theorem opClearStaging_holdsOk (hs : s.holdsOk) : (opClearStaging s).state.holdsOk := by
  refine hs.congr (opClearStaging_entries ..) ?_
  unfold opClearStaging
  split
  · rfl
  · exact State.setStaging_holdQueue ..

theorem opCommit_holdsOk (hs : s.holdsOk) : (opCommit s).state.holdsOk := by
  refine hs.congr (opCommit_entries ..) ?_
  simp only [opCommit]
  split
  · rfl
  · split
    · rfl
    · split <;> rfl

theorem opAlertAck_holdsOk (hs : s.holdsOk) (params : List Byte) : (opAlertAck s params).state.holdsOk := by
  refine hs.congr (opAlertAck_entries ..) ?_
  unfold opAlertAck
  split
  · rfl
  · split
    · exact State.withdraw_holdQueue ..
    · rfl

/-! ## The performance (R139) -/

theorem carryOut_holdsOk (hs : s.holdsOk) (i : EntryIndex) (x : Exchange) (params : List Byte) (op : MgmtOp) :
    (carryOut s i x params op).state.holdsOk := by
  cases op with
  | holdList => exact hs.expireHolds _
  | holdDecide => exact opHoldDecide_holdsOk hs _
  | endExchange => exact opEndExchange_holdsOk hs ..
  | claim => exact opClaim_holdsOk hs _
  | releaseLease => exact hs.endLease _
  | readEntry => exact (opReadEntry_state s params).symm ▸ hs
  | readExchange => exact (opReadExchange_state s params).symm ▸ hs
  | writeEntry => exact opWriteEntry_holdsOk hs ..
  | clearStaging => exact opClearStaging_holdsOk hs
  | commit => exact opCommit_holdsOk hs
  | alertAck => exact opAlertAck_holdsOk hs _
  | identify | renew | linkState | warmReset => exact hs.congr rfl rfl

theorem operationResult_holdsOk (hs : s.holdsOk) (i : EntryIndex) (x : Exchange) : (operationResult s i x).state.holdsOk := by
  unfold operationResult
  split
  · exact hs
  · split
    · exact hs
    · split
      · exact hs
      · exact carryOut_holdsOk hs ..

theorem State.holdsOk.performOperation (hs : s.holdsOk) (h : (s.entry i).exchange = some x) (hx : x.state = .mgmtAnswer)
    (hd : x.deadline = none) : (s.performOperation i x).holdsOk := by
  have hne : x.state ≠ .held := by rw [hx]; decide
  exact conclude_holdsOk (operationResult_holdsOk hs i x)
    ((State.notHeld_of_exchange h hne).congr (operationResult_beside h hx hd).2) hne

/-! ## The verdict -/

theorem State.holdsOk.postDenial (hs : s.holdsOk) (f : List Byte) (code : Byte) (d : Option (ViewIndex × View)) :
    (s.postDenial f code d).holdsOk := by
  obtain h | ⟨a, h⟩ := s.postDenial_eq f code d
  · rw [h]; exact hs
  · rw [h]; exact hs.post a

theorem State.holdsOk.admitManagement (hs : s.holdsOk) (hfree : (s.entry i).exchange = none) (f : List Byte) :
    (s.admitManagement i f).holdsOk := by
  have hopened : (s.allocate i (managementExchange f)).holdsOk := hs.allocate hfree nofun
  have hown : ((s.allocate i (managementExchange f)).entry i).exchange = some (managementExchange f) := by rw [State.allocate_entry_self]
  simp only [State.admitManagement]
  split
  · split
    · exact (hs.allocate (y := s.awaitingBody (managementExchange f)) hfree (by simp [State.awaitingBody])).enqueue ..
    · exact conclude_holdsOk (r := refuseOp (s.allocate i _) codeBadBody) hopened (State.notHeld_of_exchange hown nofun) nofun
  · exact hopened.performOperation hown rfl rfl

/-- The exchange that a hold opens is as R94 says. -/
theorem State.holdingExchange_heldOk (s : State) (k : ViewIndex) (v : View) (f : List Byte) : (s.holdingExchange k v f).heldOk := by
  intro _
  refine ⟨rfl, rfl, rfl, ?_, by rfl, by rfl, by rfl, rfl, rfl, rfl⟩
  simp only [State.holdingExchange]
  split <;> rfl

theorem State.holdsOk.admitHeld (hs : s.holdsOk) (hfree : (s.entry i).exchange = none) (hroom : s.holdQueue.length < Config.holdPlaces)
    (k : ViewIndex) (v : View) (f : List Byte) : (s.admitHeld i k v f).holdsOk := by
  rw [State.admitHeld_eq s k v f rfl]
  refine State.holdsOk.post (hs.hold hfree (s.holdingExchange_heldOk k v f) rfl hroom ?_) _
  rw [State.allocate_refOf]

theorem State.holdsOk.admitReply (hs : s.holdsOk) (hfree : (s.entry i).exchange = none) (k : ViewIndex) (r : ReplyIndex) (record : ReplyRecord)
    (f : List Byte) : (s.admitReply i k r record f).holdsOk := by
  rw [State.admitReply_eq]
  exact State.holdsOk.congr (State.holdsOk.allocate ((hs.takeCells _).discard f) hfree (by simp [answeringExchange])) rfl rfl

theorem State.holdsOk.admitIssued (hs : s.holdsOk) (hfree : (s.entry i).exchange = none) (k : ViewIndex) (v : View) (f : List Byte) :
    (s.admitIssued i k v f).holdsOk :=
  (hs.allocate hfree (by simp [openingExchange])).enqueue ..

/-- Step 14 holds only where the queue has room (R54). -/
theorem State.judgeHold_room {j : EntryIndex} {k l : ViewIndex} {v w : View} {q : Request} (h : s.judgeHold i k v q = .hold j l w) :
    s.holdQueue.length < Config.holdPlaces := by
  have hlink : s.judgeLink i k v ≠ .hold j l w := by rw [State.judgeLink_eq]; split <;> nofun
  unfold State.judgeHold at h
  split at h
  · split at h
    · next hroom => exact hroom
    · cases h
  · unfold State.judgeReply at h
    split at h
    · split at h
      · split at h
        · cases h
        · exact absurd h hlink
      · exact absurd h hlink
    · exact absurd h hlink

theorem State.judge_room {j : EntryIndex} {l : ViewIndex} {w : View} {f : List Byte} (h : s.judge f = .hold j l w) :
    s.holdQueue.length < Config.holdPlaces := by
  simp only [State.judge, State.judgeStorage] at h
  split at h
  · cases h
  · split at h
    · cases h
    · split at h
      · cases h
      · split at h
        · cases h
        · split at h
          · cases h
          · split at h
            · cases h
            · exact State.judgeHold_room h

theorem State.holdsOk.takeRequest (hs : s.holdsOk) (f : List Byte) : (s.takeRequest f).holdsOk := by
  unfold State.takeRequest
  split
  · exact (hs.discard f).post _
  · have hadmit : ∀ i, (s.judge f).admitsTo = some i → (s.entry i).exchange = none := fun i h => (State.judge_admitsTo h).1
    unfold State.giveVerdict
    split
    · exact State.holdsOk.postDenial ((hs.release _).enqueue ..) ..
    · next hv => exact hs.admitManagement (hadmit _ (by rw [hv]; rfl)) f
    · next hv => exact hs.admitHeld (hadmit _ (by rw [hv]; rfl)) (State.judge_room hv) ..
    · next hv => exact hs.admitReply (hadmit _ (by rw [hv]; rfl)) ..
    · next hv => exact hs.admitIssued (hadmit _ (by rw [hv]; rfl)) ..

/-! ## Frames of a target -/

/-- Taking a target's frame keeps the holds when the rule of its kind does on the entry it matches, whose command has been sent. -/
theorem State.holdsOk.takeTargetFrame {rule : EntryIndex → Exchange → Routing → State} (hs : s.holdsOk) (k : Target) (f : List Byte)
    (hrule : ∀ i x g, (s.entry i).exchange = some x → x.state ≠ .held → (rule i x g).holdsOk) : (s.takeTargetFrame k f rule).holdsOk := by
  unfold State.takeTargetFrame
  split
  · exact (hs.discard f).post _
  · split
    · split
      · exact hs.discard f
      · exact (hs.discard f).post _
    · next i x g hm =>
      obtain ⟨-, -, -, hx, -, hg, -, hsent⟩ := State.matchTarget_eq_matched.1 hm
      exact hrule i x g hx ((hs.heldOk hx).not_held_of_sent hg hsent)

section
variable (hs : s.holdsOk) (hx : (s.entry i).exchange = some x) (hne : x.state ≠ .held) (k : Target) (f : List Byte) (g : Routing)
include hs hx hne

theorem State.holdsOk.proceedRule : (s.proceedRule k f i x g).holdsOk := by
  unfold State.proceedRule
  split
  · exact (hs.discard f).post _
  · split
    · exact hs.discard f
    · split
      · exact hs.discard_phaseViolation hx ..
      · exact (hs.setExchange (State.notHeld_of_exchange hx hne) (by simp)).enqueue ..

theorem State.holdsOk.targetDataRule : (s.targetDataRule k f i x g).holdsOk := by
  unfold State.targetDataRule
  split
  · exact (hs.discard f).post _
  · split
    · exact hs.discard f
    · split
      · exact hs.discard_phaseViolation hx ..
      · exact (hs.setExchange (State.notHeld_of_exchange hx hne) (by simp)).enqueue ..

theorem State.holdsOk.statusRule : (s.statusRule k f i x g).holdsOk := by
  have hi := State.notHeld_of_exchange hx hne
  unfold State.statusRule
  split
  · exact (hs.discard f).post _
  · split
    · split
      · unfold State.endAbortByStatus
        split
        · exact (hs.discard f).freeEntry i
        · exact hs.deliverStatus hi hne _
      · exact hs.discard f
    · split
      · unfold State.acceptStatus
        split
        · exact hs.deliverStatus hi hne _
        · exact hs.setExchange hi (by exact hne)
      · exact hs.discard_phaseViolation hx ..

end

theorem State.holdsOk.abortDoneRule (hs : s.holdsOk) (k : Target) (f : List Byte) (i : EntryIndex) (x : Exchange) (g : Routing) :
    (s.abortDoneRule k f i x g).holdsOk := by
  unfold State.abortDoneRule
  split
  · exact hs.discard f
  · split
    · split
      · unfold State.endAbortByDone
        split
        · exact (hs.discard f).freeEntry i
        · exact (hs.enqueue ..).freeEntry i
      · exact hs.discard f
    · exact (hs.discard f).post _

/-! ## DATA and ABORT from an initiator -/

theorem Exchange.withBodyFrame_not_held (hx : x.state = .mgmtBody) (f : List Byte) : (x.withBodyFrame f).state ≠ .held := by
  simp only [Exchange.withBodyFrame]
  split <;> simp [hx]

theorem State.holdsOk.bodyRule (hs : s.holdsOk) (h : (s.entry i).exchange = some x) (hx : x.state = .mgmtBody) (f : List Byte) :
    (s.bodyRule i x f).holdsOk := by
  unfold State.bodyRule
  split
  · exact hs.discard_phaseViolation h ..
  · have htaken := hs.setExchange (State.notHeld_of_exchange h (by rw [hx]; decide)) (x.withBodyFrame_not_held hx f)
    simp only [State.acceptBody]
    split
    · next hlast =>
      rw [Exchange.withBodyFrame_of_last hlast] at htaken ⊢
      exact htaken.performOperation (by rw [State.setExchange_entry_self]) rfl rfl
    · exact htaken

theorem State.holdsOk.movingRule (hs : s.holdsOk) (h : (s.entry i).exchange = some x) (hx : x.state ≠ .held) (g : Routing) (f : List Byte) :
    (s.movingRule i x g f).holdsOk := by
  unfold State.movingRule
  split
  · exact hs.discard_phaseViolation h ..
  · exact (hs.setExchange (State.notHeld_of_exchange h hx) (by exact hx)).enqueue ..

theorem State.holdsOk.initiatorDataRule (hs : s.holdsOk) (h : (s.entry i).exchange = some x) (f : List Byte) :
    (s.initiatorDataRule i x f).holdsOk := by
  have hmoving : x.state ≠ .held → (match x.routing with
      | some g => s.movingRule i x g f
      | none => (s.discard f).phaseViolation i x (unwantedViolation f)).holdsOk := by
    intro hne
    split
    · exact hs.movingRule h hne ..
    · exact hs.discard_phaseViolation h ..
  unfold State.initiatorDataRule
  split
  · exact hs.discard_phaseViolation h ..
  · split
    · exact (hs.discard f).post _
    · next hx => exact hs.bodyRule h hx f
    · exact hs.discard f
    · exact hs.discard_phaseViolation h ..
    · exact hs.discard_phaseViolation h ..
    · next hx => exact hmoving (by rw [hx]; decide)
    · next hx => exact hmoving (by rw [hx]; decide)

theorem State.holdsOk.takeInitiatorData (hs : s.holdsOk) (f : List Byte) : (s.takeInitiatorData f).holdsOk := by
  unfold State.takeInitiatorData
  split
  · exact (hs.discard f).post _
  · split
    · exact (hs.discard f).post _
    · next hm => exact hs.initiatorDataRule (State.matchInitiator_exchange hm) f

theorem State.holdsOk.abortMatched (hs : s.holdsOk) (hx : (s.entry i).exchange = some x) (f : List Byte) : (s.abortMatched i x f).holdsOk := by
  unfold State.abortMatched
  split
  · exact hs.enqueue ..
  · split
    · next g hg =>
      have hi : s.NotHeld i := State.notHeld_of_exchange hx ((hs.heldOk hx).not_held_of_targetActive hg)
      exact (hs.discard f).enterAborting (hi.congr (State.discard_entry ..)) ..
    · exact ((hs.withdrawUnseen i x).enqueue ..).freeEntry i

theorem State.holdsOk.takeAbort (hs : s.holdsOk) (f : List Byte) : (s.takeAbort f).holdsOk := by
  unfold State.takeAbort
  split
  · exact (hs.discard f).post _
  · split
    · exact (hs.discard f).post _
    · split
      · exact hs.enqueue ..
      · split
        · exact hs.enqueue ..
        · next hx => exact hs.abortMatched hx f

/-! ## Egress -/

/-- A REQUEST that waits in its target's queue is not held in cells (R94). -/
theorem State.holdsOk.markSent (hs : s.holdsOk) (r : EntryRef) : (s.markSent r).holdsOk := by
  unfold State.markSent
  split
  · exact hs
  · next x hx =>
    split
    · exact hs
    · split
      · next hq =>
        have hentry := State.exchangeAt_exchange hx
        have hne : x.state ≠ .held := by
          intro hheld
          obtain ⟨-, -, -, -, -, hcells, -⟩ := hs.heldOk hentry hheld
          simp [hq] at hcells
        exact hs.setExchange (State.notHeld_of_exchange hentry hne) (by exact hne)
      · exact hs

theorem State.holdsOk.dataLeft (hs : s.holdsOk) (hx : (s.entry i).exchange = some x) : (s.dataLeft i x).holdsOk := by
  unfold State.dataLeft
  split
  · next k hk =>
    have hne : x.state ≠ .held := fun hheld => by simp [((hs.heldOk hx).closing_none hheld).1] at hk
    exact hs.deliverStatus (State.notHeld_of_exchange hx hne) hne k
  · exact hs.closeAndFree ..
  · exact hs.closeManagement ..
  · exact hs

/-- DATA waiting falls, and the exchange `y` is as the entry's in its state (R74). -/
theorem State.holdsOk.dataGone (hs : s.holdsOk) (hx : (s.entry i).exchange = some x) (hstate : y.state = x.state) (hy : y.heldOk) :
    (s.dataGone i y).holdsOk := by
  have hfewer : (s.setExchange i { y with dataWaiting := y.dataWaiting - 1 }).holdsOk := hs.rewrite hx hstate hy
  simp only [State.dataGone]
  split
  · exact hfewer.dataLeft (by rw [State.setExchange_entry_self])
  · exact hfewer

theorem State.holdsOk.dataSent (hs : s.holdsOk) (d : Descriptor) : (s.dataSent d).holdsOk := by
  unfold State.dataSent
  split
  · exact hs
  · split
    · exact hs
    · next x hx =>
      have hentry := State.exchangeAt_exchange hx
      split
      · exact hs.dataGone hentry (x.withRun_state _) ((hs.heldOk hentry).withRun _)
      · exact hs.dataGone hentry rfl (hs.heldOk hentry)

/-- A warm reset leaves every entry FREE and the hold queue empty (R147, R148). -/
theorem State.takeWarmReset_holdsOk (s : State) : s.takeWarmReset.holdsOk :=
  State.holdsOk_of_none_held (fun i => State.notHeld_of_free (by rw [State.takeWarmReset_entry])) rfl

theorem State.holdsOk.completed (hs : s.holdsOk) (p : Port) (d : Descriptor) : (s.completed p d).holdsOk := by
  have hdata : (if p = .i ∧ d.isData = true then s.dataSent d else s).holdsOk := by
    split
    · exact hs.dataSent d
    · exact hs
  have hsent : ∀ u : State, u.holdsOk → (match d.entry with
      | some r => if d.isRequest then u.markSent r else u
      | none => u).holdsOk := by
    intro u hu
    split
    · split
      · exact hu.markSent _
      · exact hu
    · exact hu
  have halerted : ∀ u : State, u.holdsOk → (if d.isAlert then u.alertSent else u).holdsOk := by
    intro u hu
    split
    · exact hu.congr rfl rfl
    · exact hu
  simp only [State.completed]
  split
  · exact State.takeWarmReset_holdsOk _
  · exact halerted _ (hsent _ hdata)

theorem State.holdsOk.sendHead (hs : s.holdsOk) (p : Port) (d : Descriptor) (rest : List Descriptor) : (s.sendHead p d rest).holdsOk := by
  simp only [State.sendHead]
  split
  · exact hs.setPort ..
  · exact ((hs.setPort ..).release _).completed p d

theorem State.holdsOk.dataDropped (hs : s.holdsOk) (d : Descriptor) : (s.dataDropped d).holdsOk := by
  unfold State.dataDropped
  split
  · exact hs
  · next r _ =>
    split
    · exact hs
    · next x hx =>
      have hentry := State.exchangeAt_exchange hx
      have hfewer : (s.setExchange r.index { x with dataWaiting := x.dataWaiting - 1 }).holdsOk :=
        hs.rewrite (x := x) hentry rfl (hs.heldOk (x := x) hentry)
      have hself := congrArg Entry.exchange (s.setExchange_entry_self r.index { x with dataWaiting := x.dataWaiting - 1 })
      dsimp only
      split
      · next k hk =>
        have hne : x.state ≠ .held := fun hheld => by simp [((hs.heldOk hentry).closing_none hheld).1] at hk
        split
        · exact hfewer.deliverStatus (State.notHeld_of_exchange hself hne) (by exact hne) k
        · exact hfewer
      · exact hfewer

theorem State.holdsOk.dropHead (hs : s.holdsOk) (p : Port) (d : Descriptor) (rest : List Descriptor) : (s.dropHead p d rest).holdsOk := by
  have hleft := (hs.setPort p { s.port p with egress := rest }).release d.cells
  simp only [State.dropHead]
  split
  · exact hleft.dataDropped d
  · exact hleft

/-! ## Teardown and bring-up -/

theorem State.holdsOk.endRouted (hs : s.holdsOk) (k : Target) (i : EntryIndex) : (s.endRouted k i).holdsOk := by
  unfold State.endRouted
  split
  · exact hs
  · split
    · exact hs
    · split
      · exact hs
      · split
        · exact hs.freeEntry i
        · exact hs.closeAndFree ..

/-- Entries taken one after the other. -/
theorem State.foldl_holdsOk {f : State → EntryIndex → State} (hf : ∀ {u : State}, u.holdsOk → ∀ i, (f u i).holdsOk) (l : List EntryIndex)
    (hs : s.holdsOk) : (l.foldl f s).holdsOk := by
  induction l generalizing s with
  | nil => exact hs
  | cons i l ih => exact ih (hf hs i)

theorem State.holdsOk.endTargetLink (hs : s.holdsOk) (k : Target) : (s.endTargetLink k).holdsOk :=
  State.foldl_holdsOk (fun hu i => hu.endRouted k i) allEntries hs

/-- The end of one entry at a teardown of port I keeps the holds, leaves that entry out of HELD, and touches no other (R133). -/
theorem State.holdsOk.endUnheard (hs : s.holdsOk) (i : EntryIndex) :
    (s.endUnheard i).holdsOk ∧ (s.endUnheard i).NotHeld i ∧ ∀ j, j ≠ i → (s.endUnheard i).entry j = s.entry j := by
  unfold State.endUnheard
  split
  · next hfree => exact ⟨hs, State.notHeld_of_free hfree, fun _ _ => rfl⟩
  · next x hx =>
    split
    · next ha =>
      have hne : x.state ≠ .held := by rw [ha]; decide
      exact ⟨hs.setExchange (State.notHeld_of_exchange hx hne) (by exact hne),
        State.notHeld_of_exchange (congrArg _ (State.setExchange_entry_self ..)) (by exact hne), fun j hj => State.setExchange_entry_ne _ _ hj⟩
    · split
      · next g hg =>
        have hi : s.NotHeld i := State.notHeld_of_exchange hx ((hs.heldOk hx).not_held_of_targetActive hg)
        refine ⟨hs.enterAborting hi .., ?_, fun j hj => (State.enqueue_entry ..).trans (State.setExchange_entry_ne _ _ hj)⟩
        exact State.notHeld_of_exchange (congrArg _ ((State.enqueue_entry ..).trans (State.setExchange_entry_self ..))) (by simp)
      · refine ⟨(hs.withdrawUnseen i x).freeEntry i, State.notHeld_of_free (by rw [State.freeEntry_entry_self]), fun j hj => ?_⟩
        rw [State.freeEntry_entry_ne _ hj, State.withdrawUnseen_entry]

theorem State.holdsOk.foldl_endUnheard (hs : s.holdsOk) (l : List EntryIndex) :
    (l.foldl State.endUnheard s).holdsOk ∧ ∀ i, i ∈ l ∨ s.NotHeld i → (l.foldl State.endUnheard s).NotHeld i := by
  induction l generalizing s with
  | nil => exact ⟨hs, fun i hi => hi.resolve_left (List.not_mem_nil)⟩
  | cons j l ih =>
    obtain ⟨hkept, hself, hothers⟩ := hs.endUnheard j
    obtain ⟨hall, hnone⟩ := ih hkept
    refine ⟨hall, fun i hi => hnone i ?_⟩
    by_cases hij : i = j
    · exact .inr (hij ▸ hself)
    · exact hi.imp (fun hmem => (List.mem_cons.1 hmem).resolve_left hij) fun hnot => hnot.congr (hothers i hij)

/-- A teardown of port I takes every entry out of HELD and empties the hold queue (R133). -/
theorem State.holdsOk.endInitiatorLink (hs : s.holdsOk) : s.endInitiatorLink.holdsOk := by
  have hnone := fun i => (hs.foldl_endUnheard allEntries).2 i (.inl (List.mem_finRange i))
  unfold State.endInitiatorLink
  generalize allEntries.foldl State.endUnheard s = u at hnone
  exact State.holdsOk_of_none_held (fun i => (hnone i).congr rfl) rfl

theorem State.holdsOk.teardown (hs : s.holdsOk) (p : Port) (next : PortState) (why : LinkDetail) : (s.teardown p next why).holdsOk := by
  have hcleared : ((s.clearPort p next).postLink p why).holdsOk := State.holdsOk.post ((hs.setPort ..).release _) _
  unfold State.teardown State.endDependants
  split
  · exact hcleared.endInitiatorLink.endLease _
  · exact hcleared.endTargetLink _
  · exact hcleared.endTargetLink _

theorem State.holdsOk.launchInit (hs : s.holdsOk) (p : Port) : (s.launchInit p).holdsOk := (hs.setPort ..).takeCells _

theorem State.holdsOk.leaveInitWait (hs : s.holdsOk) (p : Port) (next : PortState) (failures : Nat) :
    (s.leaveInitWait p next failures).holdsOk :=
  (hs.setPort ..).release _

theorem State.holdsOk.judgeInit (hs : s.holdsOk) (p : Port) (f : List Byte) : (s.judgeInit p f).holdsOk := by
  unfold State.judgeInit
  split
  · exact (hs.setPort ..).post _
  · exact (hs.leaveInitWait ..).post _

/-! ## Reply service -/

theorem State.holdsOk.serve (hs : s.holdsOk) (r : EntryRef) : (s.serve r).holdsOk := by
  unfold State.serve
  split
  · exact hs
  · next x hx =>
    split
    · exact hs
    · split
      · next hserves =>
        have hne : x.state ≠ .held := by rw [hserves.1]; decide
        simp only [State.startService]
        split
        · exact hs.closeAndFree ..
        · exact (hs.setExchange (State.notHeld_of_exchange (State.exchangeAt_exchange hx) hne) (by exact hne)).enqueueAll ..
      · exact hs

end Sys2Proof.Machine
end

section
/-! Every event keeps the hold queue equal to the entries in HELD, each of them as R94 says (R92, R94; O55). -/

namespace Sys2Proof.Machine

/-- The event keeps the holds of every state in which it occurs. -/
def KeepsHolds (f : State → Option State) : Prop := ∀ s t, s.holdsOk → f s = some t → t.holdsOk

theorem KeepsHolds.event {f : State → Option State} (h : KeepsHolds f) {s t : State} (hs : s.holdsOk) (ht : event f s = .next t) :
    t.holdsOk := by
  obtain heq | ⟨u, -, hu, heq⟩ := event_cases f s
  · cases heq.symm.trans ht; exact hs
  · cases heq.symm.trans ht; exact (h s u hs hu).settle

theorem KeepsHolds.plainEvent {f : State → Option State} (h : KeepsHolds f) {s t : State} (hs : s.holdsOk) (ht : plainEvent f s = .next t) :
    t.holdsOk := by
  obtain heq | ⟨u, -, hu, heq⟩ := plainEvent_cases f s
  · cases heq.symm.trans ht; exact hs
  · cases heq.symm.trans ht; exact h s t hs hu

/-! ## Frames -/

/-- An event in which a consumer takes the next frame of a link. -/
theorem KeepsHolds.of_takeNext {c : Consumer} {p : Port} {rule : List Byte → State → State}
    (hrule : ∀ f (u : State), u.holdsOk → (rule f u).holdsOk) : KeepsHolds fun s => (s.takeNext c p).map fun (f, u) => rule f u := by
  intro s t hs h
  obtain ⟨⟨f, u⟩, htaken, rfl⟩ := Option.map_eq_some_iff.1 h
  exact hrule f u (State.takeNext_holdsOk htaken hs)

/-- An event in which exchange control takes a frame of the kind it names. -/
theorem KeepsHolds.of_takeKind {p : Port} {k : Byte} {rule : List Byte → State → State}
    (hrule : ∀ f (u : State), u.holdsOk → (rule f u).holdsOk) : KeepsHolds fun s => (s.takeKind p k).map fun (f, u) => rule f u := by
  intro s t hs h
  obtain ⟨⟨f, u⟩, htaken, rfl⟩ := Option.map_eq_some_iff.1 h
  exact hrule f u (State.takeKind_holdsOk htaken hs)

theorem verdictEvent_keepsHolds : KeepsHolds verdictEvent := .of_takeNext (rule := fun f u => u.takeRequest f) fun f _ hu => hu.takeRequest f

theorem initiatorDataEvent_keepsHolds : KeepsHolds initiatorDataEvent :=
  .of_takeKind (rule := fun f u => u.takeInitiatorData f) fun f _ hu => hu.takeInitiatorData f

theorem initiatorAbortEvent_keepsHolds : KeepsHolds initiatorAbortEvent :=
  .of_takeKind (rule := fun f u => u.takeAbort f) fun f _ hu => hu.takeAbort f

theorem targetProceedEvent_keepsHolds (k : Target) : KeepsHolds (targetProceedEvent k) :=
  .of_takeKind (rule := fun f u => u.takeTargetFrame k f (u.proceedRule k f)) fun f _ hu =>
    hu.takeTargetFrame k f fun _ _ g hx hne => hu.proceedRule hx hne k f g

theorem targetDataEvent_keepsHolds (k : Target) : KeepsHolds (targetDataEvent k) :=
  .of_takeKind (rule := fun f u => u.takeTargetFrame k f (u.targetDataRule k f)) fun f _ hu =>
    hu.takeTargetFrame k f fun _ _ g hx hne => hu.targetDataRule hx hne k f g

theorem targetStatusEvent_keepsHolds (k : Target) : KeepsHolds (targetStatusEvent k) :=
  .of_takeKind (rule := fun f u => u.takeTargetFrame k f (u.statusRule k f)) fun f _ hu =>
    hu.takeTargetFrame k f fun _ _ g hx hne => hu.statusRule hx hne k f g

theorem targetAbortDoneEvent_keepsHolds (k : Target) : KeepsHolds (targetAbortDoneEvent k) :=
  .of_takeKind (rule := fun f u => u.takeTargetFrame k f (u.abortDoneRule k f)) fun f _ hu =>
    hu.takeTargetFrame k f fun i x g _ _ => hu.abortDoneRule k f i x g

theorem unknownKindEvent_keepsHolds (p : Port) : KeepsHolds (unknownKindEvent p) :=
  .of_takeNext (rule := fun f u => (u.discard f).postStaleLink p (sorterDetail f)) fun f _ hu => (hu.discard f).post _

theorem wrongLinkEvent_keepsHolds (p : Port) : KeepsHolds (wrongLinkEvent p) := by
  intro s t hs h
  unfold wrongLinkEvent at h
  split at h
  · next f u htaken =>
    obtain ⟨-, ⟨⟩⟩ := Option.ite_none_right_eq_some.1 h
    have hdiscarded := (State.takeNext_holdsOk htaken hs).discard f
    unfold State.postWrongLink
    split
    · exact hdiscarded.post _
    · exact hdiscarded.post _
  · cases h

/-! ## Expiries -/

/-- An event of an entry's timer. -/
theorem KeepsHolds.of_expired {i : EntryIndex} {k : DeadlineKind} {rule : State → Exchange → State}
    (hrule : ∀ (s : State) x, s.holdsOk → (s.entry i).exchange = some x → (rule s x).holdsOk) :
    KeepsHolds fun s => (s.expired i k).map (rule s) := by
  intro s t hs h
  obtain ⟨x, hx, rfl⟩ := Option.map_eq_some_iff.1 h
  exact hrule s x hs (State.expired_exchange hx)

theorem exchangeExpiryEvent_keepsHolds (i : EntryIndex) : KeepsHolds (exchangeExpiryEvent i) :=
  .of_expired (k := .exchange) fun _ _ hs hx => (hs.endWithStatus hx _ _).post _

theorem graceExpiryEvent_keepsHolds (i : EntryIndex) : KeepsHolds (graceExpiryEvent i) := by
  refine .of_expired (k := .grace) (rule := fun s x => if x.closed then s.freeEntry i
    else (s.enqueue .i (s.ofEntry i (.made (abortDoneFrame x)))).freeEntry i) fun s x hs _ => ?_
  split
  · exact hs.freeEntry i
  · exact (hs.enqueue ..).freeEntry i

theorem holdExpiryEvent_keepsHolds (i : EntryIndex) : KeepsHolds (holdExpiryEvent i) :=
  .of_expired (k := .hold) fun _ x hs _ => hs.expireHold i x

theorem bodyExpiryEvent_keepsHolds (i : EntryIndex) : KeepsHolds (bodyExpiryEvent i) :=
  .of_expired (k := .body) fun _ x hs _ => (hs.closeAndFree i x _).post _

theorem leaseExpiryEvent_keepsHolds : KeepsHolds leaseExpiryEvent := by
  intro s t hs h
  unfold leaseExpiryEvent at h
  split at h
  · obtain ⟨-, ⟨⟩⟩ := Option.ite_none_right_eq_some.1 h
    exact hs.endLease _
  · cases h

theorem resendExpiryEvent_keepsHolds : KeepsHolds resendExpiryEvent := by
  intro s t hs h
  unfold resendExpiryEvent at h
  split at h
  · split at h
    · obtain ⟨-, ⟨⟩⟩ := Option.ite_none_right_eq_some.1 h
      exact hs.congr (State.enqueue_entries ..) (State.enqueue_holdQueue ..)
    · cases h
  · cases h

theorem resyncCompletionEvent_keepsHolds : KeepsHolds resyncCompletionEvent := by
  intro s t hs h
  unfold resyncCompletionEvent at h
  split at h
  · obtain ⟨-, ⟨⟩⟩ := Option.ite_none_right_eq_some.1 h
    exact (hs.setStaging s.activeBank).congr (State.post_entries ..) (State.post_holdQueue ..)
  · cases h

theorem clockTick_keepsHolds : KeepsHolds clockTick := by
  rintro s t hs ⟨⟩
  exact hs.congr rfl rfl

/-! ## Replies and egress -/

theorem replyServiceEvent_keepsHolds : KeepsHolds replyServiceEvent := by
  intro s t hs h
  unfold replyServiceEvent at h
  split at h
  · cases h
  · next r rest _ =>
    cases h
    exact (hs.congr (t := { s with startList := rest }) rfl rfl).serve r

theorem transmissionEvent_keepsHolds (p : Port) : KeepsHolds (transmissionEvent p) := by
  intro s t hs h
  unfold transmissionEvent at h
  split at h
  · cases h
  · obtain ⟨-, ⟨⟩⟩ := Option.ite_none_right_eq_some.1 h
    exact hs.sendHead ..

theorem headDiscardEvent_keepsHolds (p : Port) : KeepsHolds (headDiscardEvent p) := by
  intro s t hs h
  unfold headDiscardEvent at h
  split at h
  · cases h
  · obtain ⟨-, ⟨⟩⟩ := Option.ite_none_right_eq_some.1 h
    exact hs.dropHead ..

/-! ## Links -/

theorem signalPresentEvent_keepsHolds (p : Port) : KeepsHolds (signalPresentEvent p) := by
  intro s t hs h
  obtain ⟨-, ⟨⟩⟩ := Option.ite_none_right_eq_some.1 h
  exact hs.setPort ..

theorem laneLockEvent_keepsHolds (p : Port) : KeepsHolds (laneLockEvent p) := by
  intro s t hs h
  obtain ⟨-, ⟨⟩⟩ := Option.ite_none_right_eq_some.1 h
  exact hs.launchInit p

theorem signalLossEvent_keepsHolds (p : Port) : KeepsHolds (signalLossEvent p) := by
  intro s t hs h
  unfold signalLossEvent at h
  split at h
  · cases h; exact hs.teardown ..
  · cases h; exact hs.leaveInitWait ..

theorem initWaitExpiryEvent_keepsHolds (p : Port) : KeepsHolds (initWaitExpiryEvent p) := by
  intro s t hs h
  simp only [initWaitExpiryEvent] at h
  split at h
  · split at h
    · cases h; exact hs.leaveInitWait ..
    · cases h; exact (hs.leaveInitWait ..).post _
  · cases h

theorem receiveInit_keepsHolds (p : Port) (f : List Byte) : KeepsHolds (receiveInit p f) := by
  intro s t hs h
  unfold receiveInit at h
  split at h
  · cases h
  · split at h
    · cases h; exact hs.judgeInit p f
    · cases h; exact ((hs.teardown ..).launchInit p).judgeInit p f
    · cases h
    · cases h
    · cases h

theorem creditArrivalEvent_keepsHolds (p : Port) (f : List Byte) : KeepsHolds (creditArrivalEvent p f) := by
  intro s t hs h
  simp only [creditArrivalEvent] at h
  split at h
  · cases h
  · split at h
    · cases h; exact State.holdsOk.teardown (hs.post _) ..
    · cases h; exact hs.setPort ..

theorem creditSendEvent_keepsHolds (p : Port) : KeepsHolds (creditSendEvent p) := by
  intro s t hs h
  obtain ⟨-, ⟨⟩⟩ := Option.ite_none_right_eq_some.1 h
  exact hs.setPort ..

theorem State.holdsOk.storeArrival {s : State} (hs : s.holdsOk) (p : Port) (f : List Byte) : (s.storeArrival p f).holdsOk := by
  simp only [State.storeArrival]
  split
  · exact ((hs.setPort ..).release _).post _
  · exact (hs.setPort ..).release _

theorem creditedArrivalEvent_keepsHolds (p : Port) (f : List Byte) : KeepsHolds (creditedArrivalEvent p f) := by
  intro s t hs h
  unfold creditedArrivalEvent at h
  split at h
  · cases h
  · split at h
    · cases h; exact State.holdsOk.teardown (hs.post _) ..
    · cases h; exact hs.storeArrival p f

/-! ## The statement -/

/-- A management command is the verdict or the body frame that performs it. -/
theorem performanceEvent_keepsHolds (op : MgmtOp) (w : PerformedAt) : KeepsHolds (performanceEvent op w) := by
  intro s t hs h
  cases w with
  | verdict => exact verdictEvent_keepsHolds s t hs (Option.ite_none_right_eq_some.1 h).2
  | lastBodyFrame => exact initiatorDataEvent_keepsHolds s t hs (Option.ite_none_right_eq_some.1 h).2

/-- The power-on values hold no exchange (R165). -/
theorem State.powerOn_holdsOk (s : State) (pin : Bool) : (s.powerOn pin).holdsOk := State.reset_holdsOk.congr rfl rfl

theorem exec_keepsHolds {c : Instr} {s t : State} (hs : s.holdsOk) (h : exec c s = .next t) : t.holdsOk := by
  cases c with
  | powerOnReset => cases h; exact s.powerOn_holdsOk _
  | resetPinAssertion => cases h; exact s.powerOn_holdsOk _
  | signalPresent p => exact (signalPresentEvent_keepsHolds p).plainEvent hs h
  | laneLock p => exact (laneLockEvent_keepsHolds p).plainEvent hs h
  | signalLoss p => exact (signalLossEvent_keepsHolds p).event hs h
  | initWaitExpiry p => exact (initWaitExpiryEvent_keepsHolds p).event hs h
  | initArrival p f | peerRestart p f => exact (receiveInit_keepsHolds p f).event hs h
  | creditArrival p f => exact (creditArrivalEvent_keepsHolds p f).event hs h
  | creditedFrameArrival p f => exact (creditedArrivalEvent_keepsHolds p f).event hs h
  | creditSend p => exact (creditSendEvent_keepsHolds p).plainEvent hs h
  | unknownKindDiscard p => exact (unknownKindEvent_keepsHolds p).event hs h
  | wrongLinkFrame p => exact (wrongLinkEvent_keepsHolds p).event hs h
  | verdict => exact verdictEvent_keepsHolds.event hs h
  | targetProceed k => exact (targetProceedEvent_keepsHolds k).event hs h
  | targetData k => exact (targetDataEvent_keepsHolds k).event hs h
  | targetStatus k => exact (targetStatusEvent_keepsHolds k).event hs h
  | targetAbortDone k => exact (targetAbortDoneEvent_keepsHolds k).event hs h
  | initiatorData => exact initiatorDataEvent_keepsHolds.event hs h
  | initiatorAbort => exact initiatorAbortEvent_keepsHolds.event hs h
  | exchangeDeadlineExpiry i => exact (exchangeExpiryEvent_keepsHolds i).event hs h
  | graceExpiry i => exact (graceExpiryEvent_keepsHolds i).event hs h
  | holdExpiry i => exact (holdExpiryEvent_keepsHolds i).event hs h
  | bodyDeadlineExpiry i => exact (bodyExpiryEvent_keepsHolds i).event hs h
  | leaseExpiry => exact leaseExpiryEvent_keepsHolds.event hs h
  | resendDeadlineExpiry => exact resendExpiryEvent_keepsHolds.event hs h
  | resyncCompletion => exact resyncCompletionEvent_keepsHolds.event hs h
  | replyServiceStart => exact replyServiceEvent_keepsHolds.event hs h
  | transmission p => exact (transmissionEvent_keepsHolds p).event hs h
  | headDiscard p => exact (headDiscardEvent_keepsHolds p).event hs h
  | identify w | claim w | renew w | releaseLease w | readEntry w | writeEntry w | clearStaging w | commit w | readExchange w | holdList w
  | holdDecide w | alertAck w | endExchange w | linkState w | warmReset w => exact (performanceEvent_keepsHolds _ w).event hs h
  | millisecondClockAdvance => exact clockTick_keepsHolds.plainEvent hs h

/-- Settles O55: an entry enters HELD with its place at a hold alone; whatever takes it from HELD takes its place; a held exchange that stays keeps
all that R94 says of it. -/
theorem eventsKeepHolds : Obligations.EventsKeepHolds := by
  intro s t hs h
  unfold step at h
  split at h
  · cases h; exact hs
  · next c rest _ => exact exec_keepsHolds (s := { s with pending := rest }) (hs.congr rfl rfl) h

end Sys2Proof.Machine
end

section
/-! HOLD_LIST's expiries, and the operations that read (R89, R95, R103, R145, R146; log entries 13, 14 and 32). -/

namespace Sys2Proof.Machine

section
variable {s t u : State} {x : Exchange} {k : HoldPlace} {l : List HoldPlace}

/-! ## Which holds are over (R1, R95) -/

theorem State.holdOver_iff : s.holdOver k = true ↔ ∃ x, s.expired k.entry.index .hold = some x := by
  simp only [State.expired_hold]
  exact Option.any_eq_true _ _

/-- Whether a hold is over is read from the clock and its own entry. -/
theorem State.holdOver_congr (hclock : t.clock = s.clock) (h : t.entry k.entry.index = s.entry k.entry.index) : t.holdOver k = s.holdOver k := by
  unfold State.holdOver
  rw [hclock, h]

theorem State.holdOver_of_index {j : HoldPlace} (h : j.entry.index = k.entry.index) : s.holdOver j = s.holdOver k := by
  unfold State.holdOver
  rw [h]

/-! ## The expiry of the holds of some places (R95) -/

/-- The STATUS D2h that the expiry of a place's hold queues. -/
def State.expiryStatus (s : State) (h : HoldPlace) : Option Descriptor :=
  (s.entry h.entry.index).exchange.map fun x => bridgeStatus (s.refOf h.entry.index) x 0xD2#8

/-- The HOLD_EXPIRED alert that the expiry of a place's hold posts. -/
def State.expiryAlert (s : State) (h : HoldPlace) : Option Alert :=
  (s.entry h.entry.index).exchange.map fun x => { exchangeAlert s .holdExpired h.entry.index x with link := targetLinkOf x }

/-- Both read the place's own entry, and the alert the clock. -/
theorem State.expiryStatus_congr (h : t.entry k.entry.index = s.entry k.entry.index) : t.expiryStatus k = s.expiryStatus k := by
  unfold State.expiryStatus State.refOf
  rw [h]

theorem State.expiryAlert_congr (hclock : t.clock = s.clock) (h : t.entry k.entry.index = s.entry k.entry.index) :
    t.expiryAlert k = s.expiryAlert k := by
  unfold State.expiryAlert exchangeAlert
  rw [hclock, h]

/-- The holds of the places `l` have expired, one after the other: their places are gone, their entries FREE with their cells back, a STATUS D2h for
each has joined port I's queue, and an alert for each is posted where there is room for them all. -/
structure State.PlacesExpired (s t : State) (l : List HoldPlace) : Prop where
  holdQueue : t.holdQueue = s.holdQueue.filter fun h => h.entry.index ∉ l.map fun k => k.entry.index
  startList : t.startList = s.startList
  core : s.sameCore t
  entry : ∀ i, t.entry i = if i ∈ l.map (fun k => k.entry.index) then { s.entry i with exchange := none } else s.entry i
  queued : s.queuedOn t .i (l.filterMap s.expiryStatus)
  freeCells : t.freeCells = s.freeCells + (l.map fun k => (s.entry k.entry.index).cells).sum
  alerts : s.alerts.length + (l.filterMap s.expiryAlert).length ≤ 32 → t.alerts = s.alerts ++ l.filterMap s.expiryAlert ∧ t.dropped = s.dropped

theorem State.PlacesExpired.nil (s : State) : s.PlacesExpired s [] :=
  ⟨by simp, rfl, s.sameCore_refl, fun i => by simp, ⟨(PortRecord.queued_nil _).symm, fun _ _ => rfl⟩, rfl, fun _ => ⟨by simp, rfl⟩⟩

theorem State.queuedOn.trans {p : Port} {a b : List Descriptor} (h : s.queuedOn t p a) (k : t.queuedOn u p b) : s.queuedOn u p (a ++ b) := by
  obtain ⟨hself, hother⟩ := h
  obtain ⟨kself, kother⟩ := k
  exact ⟨by rw [kself, hself, PortRecord.queued_append], fun q hq => (kother q hq).trans (hother q hq)⟩

/-- One hold, in an entry in use. -/
theorem State.expireHold_placesExpired (hx : (s.entry k.entry.index).exchange = some x) :
    s.PlacesExpired (s.expireHold k.entry.index x) [k] := by
  obtain ⟨⟨hself, hothers, hplace, hstart⟩, hcore, hcells, hqueued, hposted⟩ :=
    (State.closeAndFree_endsWith (y := x) hx codeHoldExpired).post (s.holdExpiredAlert k.entry.index x)
  have hstatus : [k].filterMap s.expiryStatus = [bridgeStatus (s.refOf k.entry.index) x codeHoldExpired] := by
    simp [State.expiryStatus, hx, codeHoldExpired]
  have halert : [k].filterMap s.expiryAlert = [s.holdExpiredAlert k.entry.index x] := by
    simp only [List.filterMap_cons, List.filterMap_nil, State.expiryAlert, hx]
    rfl
  refine ⟨?_, hstart, hcore, fun i => ?_, hstatus ▸ hqueued, ?_, fun hroom => ?_⟩
  · refine hplace.trans (List.filter_congr fun h _ => ?_)
    simp
  · by_cases hi : i = k.entry.index
    · subst hi; rw [if_pos (by simp)]; exact hself
    · rw [if_neg (by simpa using hi)]; exact hothers i hi
  · exact hcells.trans (by simp [Entry.cells, hx])
  · rw [halert] at hroom ⊢
    rw [State.posted, if_pos (Nat.lt_of_succ_le hroom)] at hposted
    exact hposted

/-- One hold, then those of other entries. -/
theorem State.PlacesExpired.cons (hk : k.entry.index ∉ l.map fun h => h.entry.index) (h : s.PlacesExpired t [k]) (hl : t.PlacesExpired u l) :
    s.PlacesExpired u (k :: l) := by
  have hclock : t.clock = s.clock := h.core.2.1
  have hstands : ∀ j ∈ l, t.entry j.entry.index = s.entry j.entry.index := fun j hj => by
    have hne : j.entry.index ≠ k.entry.index := fun e => hk (List.mem_map.2 ⟨j, hj, e⟩)
    rw [h.entry, if_neg (by simpa using hne)]
  have hstatus : l.filterMap t.expiryStatus = l.filterMap s.expiryStatus :=
    List.filterMap_congr fun j hj => State.expiryStatus_congr (hstands j hj)
  have halert : l.filterMap t.expiryAlert = l.filterMap s.expiryAlert :=
    List.filterMap_congr fun j hj => State.expiryAlert_congr hclock (hstands j hj)
  have hcells : (l.map fun j => (t.entry j.entry.index).cells) = l.map fun j => (s.entry j.entry.index).cells :=
    List.map_congr_left fun j hj => by rw [hstands j hj]
  have happend : ∀ {α : Type} (g : HoldPlace → Option α), (k :: l).filterMap g = [k].filterMap g ++ l.filterMap g := fun g => by
    rw [← List.filterMap_append, List.singleton_append]
  refine ⟨?_, hl.startList.trans h.startList, h.core.trans hl.core, fun i => ?_, ?_, ?_, fun hroom => ?_⟩
  · rw [hl.holdQueue, h.holdQueue, List.filter_filter]
    refine List.filter_congr fun j _ => ?_
    simp [Bool.and_comm]
  · rw [hl.entry, h.entry]
    by_cases hi : i = k.entry.index <;> by_cases hil : i ∈ l.map (fun j => j.entry.index) <;> simp_all
  · rw [happend, ← hstatus]
    exact h.queued.trans hl.queued
  · rw [hl.freeCells, h.freeCells, hcells]
    simp [Nat.add_assoc]
  · rw [happend, List.length_append] at hroom
    obtain ⟨hfirst, hdropped⟩ := h.alerts (by omega)
    obtain ⟨hrest, hkept⟩ := hl.alerts (by rw [hfirst, halert, List.length_append]; omega)
    exact ⟨by rw [hrest, hfirst, halert, happend, List.append_assoc], hkept.trans hdropped⟩

/-- From the head on, the holds whose deadline the clock has reached expire, and no other. -/
theorem State.expireHolds_placesExpired (hl : (l.map fun h => h.entry.index).Nodup) : s.PlacesExpired (s.expireHolds l) (l.filter s.holdOver) := by
  induction l generalizing s with
  | nil => exact .nil s
  | cons k l ih =>
    obtain ⟨hk, hl⟩ := List.nodup_cons.1 hl
    unfold State.expireHolds
    split
    · next x hx =>
      have hfirst : s.PlacesExpired (s.expireHold k.entry.index x) [k] := State.expireHold_placesExpired (State.expired_exchange hx)
      have hover : l.filter (s.expireHold k.entry.index x).holdOver = l.filter s.holdOver := by
        refine List.filter_congr fun j hj => State.holdOver_congr hfirst.core.2.1 ?_
        have hne : j.entry.index ≠ k.entry.index := fun e => hk (List.mem_map.2 ⟨j, hj, e⟩)
        rw [hfirst.entry, if_neg (by simpa using hne)]
      rw [List.filter_cons_of_pos (State.holdOver_iff.2 ⟨x, hx⟩), ← hover]
      refine .cons (fun hmem => hk ?_) hfirst (ih hl)
      exact (List.filter_sublist.map _).subset hmem
    · next hx =>
      rw [List.filter_cons_of_neg (fun hover => by obtain ⟨x, hx'⟩ := State.holdOver_iff.1 hover; simp [hx] at hx')]
      exact ih hl

/-! ## HOLD_LIST (R103; log entry 13) -/

/-- A hold queue that names each entry once loses exactly the places whose holds are over. -/
theorem State.expireHolds_holdsExpired (h : (s.holdQueue.map fun k => k.entry.index).Nodup) : s.holdsExpired (s.expireHolds s.holdQueue) := by
  have hexpired := State.expireHolds_placesExpired (s := s) h
  refine ⟨hexpired.holdQueue.trans (List.filter_congr fun k hk => ?_), hexpired.startList, hexpired.core, hexpired.entry, hexpired.queued,
    hexpired.freeCells, hexpired.alerts⟩
  have hover : k.entry.index ∈ (s.holdQueue.filter s.holdOver).map (fun j => j.entry.index) ↔ s.holdOver k = true := by
    simp only [List.mem_map, List.mem_filter]
    exact ⟨fun ⟨j, ⟨_, hj⟩, hindex⟩ => State.holdOver_of_index hindex ▸ hj, fun hk' => ⟨k, ⟨hk, hk'⟩, rfl⟩⟩
  simp only [hover, decide_not, Bool.decide_eq_true]

theorem State.expireHolds_of_none_over (h : ∀ k ∈ s.holdQueue, s.holdOver k = false) : s.expireHolds s.holdQueue = s :=
  State.expireHolds_of_none fun k hk => Option.eq_none_iff_forall_ne_some.2 fun x hx => by
    have hover := State.holdOver_iff.2 ⟨x, hx⟩
    rw [h k hk] at hover
    cases hover

end

/-! ## READ_ENTRY, READ_EXCHANGE and IDENTIFY (R145, R146) -/

theorem opIdentify_eq (s : State) : opIdentify s = {
    state := s, code := 0x00#8,
    answer := [0x04#8, 0x12#8, 0x01#8, if s.bootstrap then 0x01#8 else 0x00#8, 16#8, 128#8, 0x01#8, 0x00#8, 32#8, 0#8, 0#8, 0#8]
      ++ toBE 4 s.generation.toNat } := by
  unfold opIdentify identifyAnswer
  cases s.bootstrap <;> rfl

theorem opReadEntry_of_active {s : State} {params : List Byte} {t : Table} (ht : tableOf (byteAt params 1) = some t)
    (hn : (byteAt params 2).toNat < t.size) (hbank : byteAt params 3 ≠ 0x01#8) :
    opReadEntry s params = { state := s, answer := s.activeBank.recordBytes t (byteAt params 2).toNat, code := 0x00#8 } := by
  simp only [opReadEntry, ht, if_neg (Nat.not_le.2 hn), if_neg hbank]
  rfl

theorem opReadEntry_of_staging {s : State} {params : List Byte} {t : Table} (ht : tableOf (byteAt params 1) = some t)
    (hn : (byteAt params 2).toNat < t.size) (hbank : byteAt params 3 = 0x01#8) (hr : s.resync = none) :
    opReadEntry s params = { state := s, answer := s.stagingBank.recordBytes t (byteAt params 2).toNat, code := 0x00#8 } := by
  simp only [opReadEntry, ht, if_neg (Nat.not_le.2 hn), if_pos hbank, hr]
  rfl

/-! ## The statement -/

/-- Settles O47: each operation passes its checks at the verdict, for none is of the lease class, and is carried out; HOLD_LIST answers from the state
its expiries leave. -/
theorem readingOperationsAnswer : Obligations.ReadingOperationsAnswer := by
  intro s u f i hat q v hmay
  have hread : ∀ {code b1 b2 b3 : Byte} {op : MgmtOp} {c : PerformedAt → Instr}, (code, op, c) ∈ mgmtCommands → q.params = [code, b1, b2, b3] →
      op.argsOk [code, b1, b2, b3] = true → op.leaseClass = false →
      exec (c .verdict) s = State.concluded f i (carryOut v i (managementExchange f) [code, b1, b2, b3] op) := by
    intro code b1 b2 b3 op c hc hparams hargs hlease
    exact hat.exec_carryOut hc hparams rfl hargs (by rintro rfl; cases hlease) hmay (.inl hlease)
  refine ⟨fun hparams => ?_, fun b1 b2 b3 t hparams ht hn => ⟨?_, ?_⟩, fun b1 h hparams => ?_, fun hparams hnodup => ?_, fun hparams => ?_⟩
  · rw [hread (op := .identify) (c := .identify) (by simp [mgmtCommands]) hparams rfl rfl, carryOut, opIdentify_eq]
  · rintro rfl
    rw [hread (op := .readEntry) (c := .readEntry) (by simp [mgmtCommands]) hparams rfl rfl, carryOut]
    exact congrArg _ (opReadEntry_of_active (params := [_, b1, b2, 0x00#8]) ht hn (show ¬(0x00#8 : Byte) = 0x01#8 by decide))
  · rintro rfl
    rw [hread (op := .readEntry) (c := .readEntry) (by simp [mgmtCommands]) hparams rfl rfl, carryOut]
    split
    · next hr => exact congrArg _ (opReadEntry_of_staging (params := [_, b1, b2, 0x01#8]) ht hn rfl hr)
    · next hr => exact congrArg _ (opReadEntry_of_busy (params := [_, b1, b2, 0x01#8]) ht hn rfl hr)
  · rw [hread (op := .readExchange) (c := .readExchange) (by simp [mgmtCommands]) hparams rfl rfl, carryOut]
    exact congrArg _ (dif_pos h)
  · refine ⟨_, State.expireHolds_holdsExpired hnodup, State.expireHolds_of_none_over, ?_⟩
    rw [hread (op := .holdList) (c := .holdList) (by simp [mgmtCommands]) hparams rfl rfl]
    rfl
  · rw [hread (op := .linkState) (c := .linkState) (by simp [mgmtCommands]) hparams rfl rfl]
    rfl

end Sys2Proof.Machine
end

section
/-! What a step can do, said once: the events of the part, each with its guard and the state it leaves (log entries 1, 2, 10 and 11). -/

namespace Sys2Proof.Machine

/-! ## The events -/

/-- An event can occur in `s`, and leaves this state before it is settled. -/
inductive State.Occurs (s : State) : State → Prop
  | verdict {f : List Byte} {u : State} (h : s.takeNext .admission .i = some (f, u)) : s.Occurs (u.takeRequest f)
  | initiatorData {f : List Byte} {u : State} (h : s.takeKind .i kindData = some (f, u)) : s.Occurs (u.takeInitiatorData f)
  | initiatorAbort {f : List Byte} {u : State} (h : s.takeKind .i kindAbort = some (f, u)) : s.Occurs (u.takeAbort f)
  | targetProceed {k : Target} {f : List Byte} {u : State} (h : s.takeKind (targetPort k) kindProceed = some (f, u)) :
      s.Occurs (u.takeTargetFrame k f (u.proceedRule k f))
  | targetData {k : Target} {f : List Byte} {u : State} (h : s.takeKind (targetPort k) kindData = some (f, u)) :
      s.Occurs (u.takeTargetFrame k f (u.targetDataRule k f))
  | targetStatus {k : Target} {f : List Byte} {u : State} (h : s.takeKind (targetPort k) kindStatus = some (f, u)) :
      s.Occurs (u.takeTargetFrame k f (u.statusRule k f))
  | targetAbortDone {k : Target} {f : List Byte} {u : State} (h : s.takeKind (targetPort k) kindAbortDone = some (f, u)) :
      s.Occurs (u.takeTargetFrame k f (u.abortDoneRule k f))
  | unknownKind {p : Port} {f : List Byte} {u : State} (h : s.takeNext .sorter p = some (f, u)) :
      s.Occurs ((u.discard f).postStaleLink p (sorterDetail f))
  | wrongLink {p : Port} {f : List Byte} {u : State} (h : s.takeNext .exchangeControl p = some (f, u)) (hk : wrongKind p (byteAt f 0) = true) :
      s.Occurs ((u.discard f).postWrongLink p f)
  | exchangeExpiry {i : EntryIndex} {x : Exchange} (h : s.expired i .exchange = some x) :
      s.Occurs ((s.endWithStatus i x codeTimedOut .timeout).post (s.timeoutAlert i x (if x.targetActive.isSome then .sent else .notSent)))
  | graceOver {i : EntryIndex} {x : Exchange} (h : s.expired i .grace = some x) (hc : x.closed = true) : s.Occurs (s.freeEntry i)
  | graceAnswered {i : EntryIndex} {x : Exchange} (h : s.expired i .grace = some x) (hc : x.closed = false) :
      s.Occurs ((s.enqueue .i (s.ofEntry i (.made (abortDoneFrame x)))).freeEntry i)
  | holdExpiry {i : EntryIndex} {x : Exchange} (h : s.expired i .hold = some x) : s.Occurs (s.expireHold i x)
  | bodyExpiry {i : EntryIndex} {x : Exchange} (h : s.expired i .body = some x) :
      s.Occurs ((s.closeAndFree i x codeTimedOut).post (s.timeoutAlert i x .body))
  | leaseExpiry {l : Lease} (h : s.lease = some l) (hd : reached s.clock l.deadline = true) : s.Occurs (s.endLease .expired)
  | resendExpiry {b : Batch} {due : Clock} (h : s.batch = some b) (hr : b.resend = some due) (hd : reached s.clock due = true) :
      s.Occurs (s.resendBatch b)
  | resyncCompletion {due : Clock} (h : s.resync = some due) (hd : reached s.clock due = true) : s.Occurs s.completeResync
  | replyService {r : EntryRef} {rest : List EntryRef} (h : s.startList = r :: rest) :
      s.Occurs (({ s with startList := rest } : State).serve r)
  | transmission {p : Port} {d : Descriptor} {rest : List Descriptor} (h : (s.port p).egress = d :: rest) (hup : s.isUp p = true)
      (hcredit : 0 < (s.port p).peerCredit) (hpass : s.passesHead p d = true) : s.Occurs (s.sendHead p d rest)
  | headDiscard {p : Port} {d : Descriptor} {rest : List Descriptor} (h : (s.port p).egress = d :: rest) (hup : s.isUp p = true)
      (hcredit : 0 < (s.port p).peerCredit) (hfail : s.passesHead p d = false) : s.Occurs (s.dropHead p d rest)
  | signalLossUp {p : Port} (h : s.isUp p = true) : s.Occurs (s.teardown p .down .signalLoss)
  | signalLossDown {p : Port} (h : s.isUp p = false) : s.Occurs (s.leaveInitWait p .down 0)
  | initRetry {p : Port} (h : s.initWaitOver p = true) (hroom : (s.port p).initFailures + 1 < Config.initFailureLimit) :
      s.Occurs (s.leaveInitWait p .training ((s.port p).initFailures + 1))
  | initFailure {p : Port} (h : s.initWaitOver p = true) (hroom : ¬(s.port p).initFailures + 1 < Config.initFailureLimit) :
      s.Occurs ((s.leaveInitWait p .failed ((s.port p).initFailures + 1)).postLink p .noInit)
  | initJudged {p : Port} {f : List Byte} (hf : isInitFrame f = true) (h : (s.port p).state = .initWait) : s.Occurs (s.judgeInit p f)
  | peerRestart {p : Port} {f : List Byte} (hf : isInitFrame f = true) (h : (s.port p).state = .up) :
      s.Occurs (((s.teardown p .training .peerRestart).launchInit p).judgeInit p f)
  | creditOverrun {p : Port} {f : List Byte} (h : s.ignoresCredit p f = false)
      (hmax : Config.peerCreditMax < (s.port p).peerCredit + creditIncrement f) :
      s.Occurs ((s.postOverrun p .peerCredit).teardown p .training .creditOverrun)
  | creditAdded {p : Port} {f : List Byte} (h : s.ignoresCredit p f = false)
      (hmax : ¬Config.peerCreditMax < (s.port p).peerCredit + creditIncrement f) :
      s.Occurs (s.setPort p { s.port p with peerCredit := (s.port p).peerCredit + creditIncrement f })
  | noCredit {p : Port} {f : List Byte} (hf : isCreditedFrame f = true) (hup : s.isUp p = true) (h : (s.port p).announced = 0) :
      s.Occurs ((s.postOverrun p .noCredit).teardown p .training .creditOverrun)
  | frameStored {p : Port} {f : List Byte} (hf : isCreditedFrame f = true) (hup : s.isUp p = true) (h : (s.port p).announced ≠ 0) :
      s.Occurs (s.storeArrival p f)

/-- A plain event can occur in `s`, and leaves this state: it ends without grants and without a batch (log entry 10). -/
inductive State.OccursPlain (s : State) : State → Prop
  | signalPresent {p : Port} (h : (s.port p).state = .down) : s.OccursPlain (s.setPort p { s.port p with state := .training })
  | laneLock {p : Port} (h : (s.port p).state = .training) : s.OccursPlain (s.launchInit p)
  | creditSend {p : Port} (hup : s.isUp p = true) (h : 0 < (s.port p).owed) :
      s.OccursPlain (s.setPort p { s.port p with
        announced := (s.port p).announced + (s.port p).owed, owed := 0, wire := (s.port p).wire ++ [(ownCredit (s.port p).owed).encode] })
  | clockTick : s.OccursPlain { s with clock := s.clock + 1#32 }

/-- What a command answers: the state as it was, power-on values, or what an event leaves. -/
inductive State.Answers (s : State) : State → Prop
  | absent : s.Answers s
  | powerOn (pin : Bool) : s.Answers (s.powerOn pin)
  | settled {u : State} (h : s.Occurs u) : s.Answers u.settle
  | plain {t : State} (h : s.OccursPlain t) : s.Answers t

/-! ## Each command's event is one of them -/

/-- Whatever this event function answers is an event that can occur. -/
def Occurring (f : State → Option State) : Prop := ∀ s t, f s = some t → s.Occurs t

theorem Occurring.event {f : State → Option State} (h : Occurring f) {s t : State} (ht : event f s = .next t) : s.Answers t := by
  obtain heq | ⟨u, -, hu, heq⟩ := event_cases f s
  · cases heq.symm.trans ht; exact .absent
  · cases heq.symm.trans ht; exact .settled (h s u hu)

theorem plainEvent_answers {f : State → Option State} (h : ∀ s t, f s = some t → s.OccursPlain t) {s t : State}
    (ht : plainEvent f s = .next t) : s.Answers t := by
  obtain heq | ⟨u, -, hu, heq⟩ := plainEvent_cases f s
  · cases heq.symm.trans ht; exact .absent
  · cases heq.symm.trans ht; exact .plain (h s t hu)

/-- An event in which a consumer takes a frame. -/
theorem Occurring.of_taken {take : State → Option (List Byte × State)} {rule : List Byte → State → State}
    (h : ∀ s f u, take s = some (f, u) → s.Occurs (rule f u)) : Occurring fun s => (take s).map fun (f, u) => rule f u := by
  intro s t ht
  obtain ⟨⟨f, u⟩, htaken, rfl⟩ := Option.map_eq_some_iff.1 ht
  exact h s f u htaken

/-- An event of an entry's timer. -/
theorem Occurring.of_expired {i : EntryIndex} {k : DeadlineKind} {rule : State → Exchange → State}
    (h : ∀ (s : State) x, s.expired i k = some x → s.Occurs (rule s x)) : Occurring fun s => (s.expired i k).map (rule s) := by
  intro s t ht
  obtain ⟨x, hx, rfl⟩ := Option.map_eq_some_iff.1 ht
  exact h s x hx

theorem verdictEvent_occurring : Occurring verdictEvent :=
  .of_taken (rule := fun f u => u.takeRequest f) fun _ _ _ => .verdict

theorem initiatorDataEvent_occurring : Occurring initiatorDataEvent :=
  .of_taken (rule := fun f u => u.takeInitiatorData f) fun _ _ _ => .initiatorData

theorem initiatorAbortEvent_occurring : Occurring initiatorAbortEvent :=
  .of_taken (rule := fun f u => u.takeAbort f) fun _ _ _ => .initiatorAbort

theorem targetProceedEvent_occurring (k : Target) : Occurring (targetProceedEvent k) :=
  .of_taken (rule := fun f u => u.takeTargetFrame k f (u.proceedRule k f)) fun _ _ _ => .targetProceed

theorem targetDataEvent_occurring (k : Target) : Occurring (targetDataEvent k) :=
  .of_taken (rule := fun f u => u.takeTargetFrame k f (u.targetDataRule k f)) fun _ _ _ => .targetData

theorem targetStatusEvent_occurring (k : Target) : Occurring (targetStatusEvent k) :=
  .of_taken (rule := fun f u => u.takeTargetFrame k f (u.statusRule k f)) fun _ _ _ => .targetStatus

theorem targetAbortDoneEvent_occurring (k : Target) : Occurring (targetAbortDoneEvent k) :=
  .of_taken (rule := fun f u => u.takeTargetFrame k f (u.abortDoneRule k f)) fun _ _ _ => .targetAbortDone

theorem unknownKindEvent_occurring (p : Port) : Occurring (unknownKindEvent p) :=
  .of_taken (rule := fun f u => (u.discard f).postStaleLink p (sorterDetail f)) fun _ _ _ => .unknownKind

theorem wrongLinkEvent_occurring (p : Port) : Occurring (wrongLinkEvent p) := by
  intro s t h
  unfold wrongLinkEvent at h
  split at h
  · next f u htaken =>
    obtain ⟨hk, ⟨⟩⟩ := Option.ite_none_right_eq_some.1 h
    exact .wrongLink htaken hk
  · cases h

theorem exchangeExpiryEvent_occurring (i : EntryIndex) : Occurring (exchangeExpiryEvent i) :=
  .of_expired (k := .exchange) fun _ _ => .exchangeExpiry

theorem graceExpiryEvent_occurring (i : EntryIndex) : Occurring (graceExpiryEvent i) := by
  refine .of_expired (k := .grace) (rule := fun s x => if x.closed then s.freeEntry i
    else (s.enqueue .i (s.ofEntry i (.made (abortDoneFrame x)))).freeEntry i) fun s x hx => ?_
  split
  · next hc => exact .graceOver hx hc
  · next hc => exact .graceAnswered hx (Bool.eq_false_of_not_eq_true hc)

theorem holdExpiryEvent_occurring (i : EntryIndex) : Occurring (holdExpiryEvent i) := .of_expired (k := .hold) fun _ _ => .holdExpiry

theorem bodyExpiryEvent_occurring (i : EntryIndex) : Occurring (bodyExpiryEvent i) := .of_expired (k := .body) fun _ _ => .bodyExpiry

theorem leaseExpiryEvent_occurring : Occurring leaseExpiryEvent := by
  intro s t h
  unfold leaseExpiryEvent at h
  split at h
  · next l hl =>
    obtain ⟨hd, ⟨⟩⟩ := Option.ite_none_right_eq_some.1 h
    exact .leaseExpiry hl hd
  · cases h

theorem resendExpiryEvent_occurring : Occurring resendExpiryEvent := by
  intro s t h
  unfold resendExpiryEvent at h
  split at h
  · next b hb =>
    split at h
    · next due hr =>
      obtain ⟨hd, ⟨⟩⟩ := Option.ite_none_right_eq_some.1 h
      exact .resendExpiry hb hr hd
    · cases h
  · cases h

theorem resyncCompletionEvent_occurring : Occurring resyncCompletionEvent := by
  intro s t h
  unfold resyncCompletionEvent at h
  split at h
  · next due hr =>
    obtain ⟨hd, ⟨⟩⟩ := Option.ite_none_right_eq_some.1 h
    exact .resyncCompletion hr hd
  · cases h

theorem replyServiceEvent_occurring : Occurring replyServiceEvent := by
  intro s t h
  unfold replyServiceEvent at h
  split at h
  · cases h
  · next r rest hl => cases h; exact .replyService hl

theorem transmissionEvent_occurring (p : Port) : Occurring (transmissionEvent p) := by
  intro s t h
  unfold transmissionEvent at h
  split at h
  · cases h
  · next d rest hq =>
    obtain ⟨⟨hup, hcredit, hpass⟩, ⟨⟩⟩ := Option.ite_none_right_eq_some.1 h
    exact .transmission hq hup hcredit hpass

theorem headDiscardEvent_occurring (p : Port) : Occurring (headDiscardEvent p) := by
  intro s t h
  unfold headDiscardEvent at h
  split at h
  · cases h
  · next d rest hq =>
    obtain ⟨⟨hup, hcredit, hfail⟩, ⟨⟩⟩ := Option.ite_none_right_eq_some.1 h
    exact .headDiscard hq hup hcredit hfail

theorem signalLossEvent_occurring (p : Port) : Occurring (signalLossEvent p) := by
  intro s t h
  unfold signalLossEvent at h
  split at h
  · next hup => cases h; exact .signalLossUp hup
  · next hup => cases h; exact .signalLossDown (Bool.eq_false_of_not_eq_true hup)

theorem initWaitExpiryEvent_occurring (p : Port) : Occurring (initWaitExpiryEvent p) := by
  intro s t h
  simp only [initWaitExpiryEvent] at h
  split at h
  · next hover =>
    split at h
    · next hroom => cases h; exact .initRetry hover hroom
    · next hroom => cases h; exact .initFailure hover hroom
  · cases h

theorem receiveInit_occurring (p : Port) (f : List Byte) : Occurring (receiveInit p f) := by
  intro s t h
  unfold receiveInit at h
  split at h
  · cases h
  · next hf =>
    have hinit : isInitFrame f = true := by simpa using hf
    split at h
    · next hstate => cases h; exact .initJudged hinit hstate
    · next hstate => cases h; exact .peerRestart hinit hstate
    · cases h
    · cases h
    · cases h

theorem creditArrivalEvent_occurring (p : Port) (f : List Byte) : Occurring (creditArrivalEvent p f) := by
  intro s t h
  simp only [creditArrivalEvent] at h
  split at h
  · cases h
  · next hignored =>
    have hcounts := Bool.eq_false_of_not_eq_true hignored
    split at h
    · next hmax => cases h; exact .creditOverrun hcounts hmax
    · next hmax => cases h; exact .creditAdded hcounts hmax

theorem creditedArrivalEvent_occurring (p : Port) (f : List Byte) : Occurring (creditedArrivalEvent p f) := by
  intro s t h
  unfold creditedArrivalEvent at h
  split at h
  · cases h
  · next htaken =>
    simp only [Bool.or_eq_true, Bool.not_eq_true', not_or, Bool.not_eq_false] at htaken
    split at h
    · next hnone => cases h; exact .noCredit htaken.1 htaken.2 hnone
    · next hsome => cases h; exact .frameStored htaken.1 htaken.2 hsome

/-- A management command is the verdict or the body frame that performs it. -/
theorem performanceEvent_occurring (op : MgmtOp) (w : PerformedAt) : Occurring (performanceEvent op w) := by
  intro s t h
  cases w with
  | verdict => exact verdictEvent_occurring s t (Option.ite_none_right_eq_some.1 h).2
  | lastBodyFrame => exact initiatorDataEvent_occurring s t (Option.ite_none_right_eq_some.1 h).2

/-- What a command answers when it is carried out. -/
theorem exec_answers {c : Instr} {s t : State} (h : exec c s = .next t) : s.Answers t := by
  cases c with
  | powerOnReset => cases h; exact .powerOn _
  | resetPinAssertion => cases h; exact .powerOn _
  | signalPresent p =>
    exact plainEvent_answers (f := signalPresentEvent p)
      (fun _ _ h => by obtain ⟨hstate, ⟨⟩⟩ := Option.ite_none_right_eq_some.1 h; exact .signalPresent hstate) h
  | laneLock p =>
    exact plainEvent_answers (f := laneLockEvent p)
      (fun _ _ h => by obtain ⟨hstate, ⟨⟩⟩ := Option.ite_none_right_eq_some.1 h; exact .laneLock hstate) h
  | creditSend p =>
    exact plainEvent_answers (f := creditSendEvent p)
      (fun _ _ h => by obtain ⟨⟨hup, howed⟩, ⟨⟩⟩ := Option.ite_none_right_eq_some.1 h; exact .creditSend hup howed) h
  | millisecondClockAdvance => exact plainEvent_answers (f := clockTick) (by rintro s t ⟨⟩; exact .clockTick) h
  | signalLoss p => exact (signalLossEvent_occurring p).event h
  | initWaitExpiry p => exact (initWaitExpiryEvent_occurring p).event h
  | initArrival p f | peerRestart p f => exact (receiveInit_occurring p f).event h
  | creditArrival p f => exact (creditArrivalEvent_occurring p f).event h
  | creditedFrameArrival p f => exact (creditedArrivalEvent_occurring p f).event h
  | unknownKindDiscard p => exact (unknownKindEvent_occurring p).event h
  | wrongLinkFrame p => exact (wrongLinkEvent_occurring p).event h
  | verdict => exact verdictEvent_occurring.event h
  | targetProceed k => exact (targetProceedEvent_occurring k).event h
  | targetData k => exact (targetDataEvent_occurring k).event h
  | targetStatus k => exact (targetStatusEvent_occurring k).event h
  | targetAbortDone k => exact (targetAbortDoneEvent_occurring k).event h
  | initiatorData => exact initiatorDataEvent_occurring.event h
  | initiatorAbort => exact initiatorAbortEvent_occurring.event h
  | exchangeDeadlineExpiry i => exact (exchangeExpiryEvent_occurring i).event h
  | graceExpiry i => exact (graceExpiryEvent_occurring i).event h
  | holdExpiry i => exact (holdExpiryEvent_occurring i).event h
  | bodyDeadlineExpiry i => exact (bodyExpiryEvent_occurring i).event h
  | leaseExpiry => exact leaseExpiryEvent_occurring.event h
  | resendDeadlineExpiry => exact resendExpiryEvent_occurring.event h
  | resyncCompletion => exact resyncCompletionEvent_occurring.event h
  | replyServiceStart => exact replyServiceEvent_occurring.event h
  | transmission p => exact (transmissionEvent_occurring p).event h
  | headDiscard p => exact (headDiscardEvent_occurring p).event h
  | identify w | claim w | renew w | releaseLease w | readEntry w | writeEntry w | clearStaging w | commit w | readExchange w | holdList w
  | holdDecide w | alertAck w | endExchange w | linkState w | warmReset w => exact (performanceEvent_occurring _ w).event h

/-- A step is the answer of its command on the state with the queue's rest, or idles (log entry 2). -/
theorem step_answers {s t : State} (h : step s = .next t) : ∃ rest, ({ s with pending := rest } : State).Answers t := by
  unfold step at h
  split at h
  · cases h; exact ⟨s.pending, .absent⟩
  · next c rest _ => exact ⟨rest, exec_answers h⟩

end Sys2Proof.Machine
end

section
/-! The start of service of a reply snapshot: its runs, or its closing STATUS at once (R105, R108). -/

namespace Sys2Proof.Machine

/-! ## A snapshot cut into runs (R105) -/

section
variable {m : Nat}

theorem runsOf_cons (m fuel : Nat) (b : Byte) (bs : List Byte) :
    runsOf m (fuel + 1) (b :: bs) = (b :: bs).take (max m 1) :: runsOf m fuel ((b :: bs).drop (max m 1)) := rfl

theorem runsOf_nil (m fuel : Nat) : runsOf m fuel [] = [] := by cases fuel <;> rfl

/-- A run takes at least one byte, so the fuel lasts as long as there are bytes. -/
theorem length_drop_run_le {fuel : Nat} {b : Byte} {bs : List Byte} (h : (b :: bs).length ≤ fuel + 1) :
    ((b :: bs).drop (max m 1)).length ≤ fuel := by
  have hpos : 1 ≤ max m 1 := le_max_right ..
  rw [List.length_drop]
  omega

/-- The runs together are the bytes that were cut. -/
theorem runsOf_flatten {fuel : Nat} {data : List Byte} (h : data.length ≤ fuel) : (runsOf m fuel data).flatten = data := by
  induction fuel generalizing data with
  | zero => rw [List.length_eq_zero_iff.1 (Nat.le_zero.1 h)]; rfl
  | succ fuel ih =>
    cases data with
    | nil => rfl
    | cons b bs => rw [runsOf_cons, List.flatten_cons, ih (length_drop_run_le h), List.take_append_drop]

theorem runsOf_eq_nil_iff {data : List Byte} : runsOf m data.length data = [] ↔ data = [] := by
  cases data with
  | nil => simp [runsOf_nil]
  | cons b bs => simp [runsOf_cons]

/-- A run holds 1 to m bytes. -/
theorem length_mem_runsOf (hm : 1 ≤ m) {fuel : Nat} {data run : List Byte} (h : run ∈ runsOf m fuel data) :
    1 ≤ run.length ∧ run.length ≤ m := by
  induction fuel generalizing data with
  | zero => cases h
  | succ fuel ih =>
    cases data with
    | nil => cases h
    | cons b bs =>
      rw [runsOf_cons, max_eq_left hm, List.mem_cons] at h
      obtain rfl | h := h
      · rw [List.length_take, List.length_cons]; omega
      · exact ih h

/-- Every run but the last is of m bytes. -/
theorem length_mem_dropLast_runsOf (hm : 1 ≤ m) {fuel : Nat} {data run : List Byte} (h : run ∈ (runsOf m fuel data).dropLast) :
    run.length = m := by
  induction fuel generalizing data with
  | zero => cases h
  | succ fuel ih =>
    cases data with
    | nil => cases h
    | cons b bs =>
      rw [runsOf_cons, max_eq_left hm] at h
      have hrest : runsOf m fuel ((b :: bs).drop m) ≠ [] := fun hnil => by rw [hnil] at h; cases h
      rw [List.dropLast_cons_of_ne_nil hrest, List.mem_cons] at h
      obtain rfl | h := h
      · have hlong : (b :: bs).drop m ≠ [] := fun hnil => hrest (by rw [hnil, runsOf_nil])
        have hlt : m < (b :: bs).length := Nat.lt_of_not_le fun hle => hlong (List.drop_eq_nil_of_le hle)
        rw [List.length_take, Nat.min_eq_left hlt.le]
      · exact ih h

end

/-! ## Descriptors that join a queue one after the other -/

/-- The descriptors `ds` have joined port p's queue; of the rest only the free cells may differ, and those not where the port is in UP. -/
structure State.Queues (s t : State) (p : Port) (ds : List Descriptor) : Prop where
  entries : t.entries = s.entries
  lists : s.sameLists t
  core : s.sameCore t
  alerts : s.sameAlerts t
  queued : s.queuedOn t p ds
  cells : (s.port p).state = .up → t.freeCells = s.freeCells

theorem State.enqueue_queues (s : State) (p : Port) (d : Descriptor) : s.Queues (s.enqueue p d) p [d] :=
  ⟨State.enqueue_entries .., State.enqueue_sameLists .., State.enqueue_sameCore .., State.enqueue_sameAlerts .., State.enqueue_queuedOn ..,
    fun hup => by rw [State.enqueue_freeCells, if_pos hup]; rfl⟩

theorem State.enqueueAll_queues (s : State) (p : Port) (ds : List Descriptor) : s.Queues (s.enqueueAll p ds) p ds := by
  induction ds generalizing s with
  | nil =>
    exact ⟨rfl, s.sameLists_refl, s.sameCore_refl, s.sameAlerts_refl, ⟨(PortRecord.queued_nil _).symm, fun _ _ => rfl⟩, fun _ => rfl⟩
  | cons d ds ih =>
    have hd := s.enqueue_queues p d
    have hds := ih (s.enqueue p d)
    exact ⟨hds.entries.trans hd.entries, hd.lists.trans hds.lists, hd.core.trans hds.core, hd.alerts.trans hds.alerts,
      hd.queued.trans hds.queued, fun hup => (hds.cells ((State.enqueue_port_state ..).trans hup)).trans (hd.cells hup)⟩

/-! ## Service (R105, R108) -/

section
variable {s : State} {r : EntryRef} {x : Exchange} {n : Snapshot}

/-- The exchange after its service has started with a number of runs. -/
def Exchange.inService (x : Exchange) (n : Snapshot) (runs : Nat) : Exchange :=
  { x with snapshot := some { n with started := true }, dataWaiting := x.dataWaiting + runs }

theorem State.startService_of_empty (h : n.data = []) : s.startService r x n = s.closeAndFree r.index x n.code := by
  simp [State.startService, runsOf_eq_nil_iff.2 h]

theorem State.startService_of_data {runs : List (List Byte)} (hruns : runsOf (s.segment .i) n.data.length n.data = runs) (h : n.data ≠ []) :
    s.startService r x n = (s.setExchange r.index (x.inService n runs.length)).enqueueAll .i (runDescriptors r 0 runs) := by
  have hsome : runs ≠ [] := fun hnil => h (runsOf_eq_nil_iff.1 (hruns.trans hnil))
  simp [State.startService, hruns, hsome, Exchange.inService]

/-- What a place of the start list brings about: nothing where no snapshot waits at its incarnation, else the start of its service. -/
theorem State.serve_cases (s : State) (r : EntryRef) :
    (s.serve r = s ∧ ∀ x n, s.exchangeAt r = some x → x.state = .replying → x.snapshot = some n → n.started = true)
      ∨ ∃ x n, s.exchangeAt r = some x ∧ x.state = .replying ∧ x.snapshot = some n ∧ n.started = false
        ∧ s.serve r = s.startService r x n := by
  unfold State.serve
  split
  · next hnone => exact .inl ⟨rfl, fun x n hx => by rw [hnone] at hx; cases hx⟩
  · next x hx =>
    split
    · next hnone => exact .inl ⟨rfl, fun y n hy _ hn => by rw [hx] at hy; cases hy; rw [hnone] at hn; cases hn⟩
    · next n hn =>
      split
      · next hwaits => exact .inr ⟨x, n, hx, hwaits.1, hn, hwaits.2, rfl⟩
      · next hidle =>
        refine .inl ⟨rfl, fun y k hy hstate hk => ?_⟩
        rw [hx] at hy; cases hy
        rw [hn] at hk; cases hk
        exact Bool.of_not_eq_false fun hstarted => hidle ⟨hstate, hstarted⟩

theorem State.serve_of_waiting (hx : s.exchangeAt r = some x) (hstate : x.state = .replying) (hn : x.snapshot = some n)
    (hstarted : n.started = false) : s.serve r = s.startService r x n := by
  simp only [State.serve, hx, hn, hstate, hstarted, and_self, if_true]

theorem State.serve_of_not_pending (h : ¬s.startPending r) : s.serve r = s := by
  obtain ⟨hidle, -⟩ | ⟨x, n, hx, hstate, -⟩ := s.serve_cases r
  · exact hidle
  · exact absurd (by simp [State.startPending, hx, hstate]) h

theorem State.startService_sameCore_sameAlerts (s : State) (r : EntryRef) (x : Exchange) (n : Snapshot) :
    s.sameCore (s.startService r x n) ∧ s.sameAlerts (s.startService r x n) := by
  by_cases h : n.data = []
  · rw [State.startService_of_empty h]
    exact ⟨s.closeAndFree_sameCore .., (State.freeEntry_alerts ..).trans (State.enqueue_alerts ..),
      (State.freeEntry_dropped ..).trans (State.enqueue_dropped ..)⟩
  · rw [State.startService_of_data rfl h]
    exact ⟨(s.setExchange_sameCore ..).trans (State.enqueueAll_queues ..).core, (State.enqueueAll_queues (s.setExchange ..) ..).alerts⟩

end

/-! ## The statement -/

theorem exec_replyServiceStart {s : State} {r : EntryRef} {rest : List EntryRef} (hp : s.resetPin = false) (hl : s.startList = r :: rest) :
    exec .replyServiceStart s = .next (({ s with startList := rest } : State).serve r).settle :=
  event_occurs hp (by rw [replyServiceEvent, hl])

/-- Settles O38: the place is idle, or its snapshot closes at once, or its runs join port I's queue. -/
theorem replyServiceQueuesRuns : Obligations.ReplyServiceQueuesRuns := by
  intro s r rest hp hl u
  rw [exec_replyServiceStart hp hl]
  refine ⟨fun h => ?_, fun x n hentry hstate hn hstarted => ?_⟩
  · rw [State.serve_of_not_pending (s := u) h]
  have hx : u.exchangeAt r = some x := by
    have hu : u.entry r.index = { inc := r.inc, exchange := some x } := hentry
    simp [State.exchangeAt, hu]
  have href : u.refOf r.index = r := congrArg (EntryRef.mk r.index) (congrArg Entry.inc hentry)
  have hxi : (u.entry r.index).exchange = some x := State.exchangeAt_exchange hx
  obtain ⟨hcore, halerts⟩ := u.startService_sameCore_sameAlerts r x n
  refine ⟨u.startService r x n, by rw [State.serve_of_waiting hx hstate hn hstarted], hcore, halerts, fun hempty => ?_,
    fun hdata m hup hm hpos => ?_⟩
  · rw [State.startService_of_empty hempty]
    have hends := State.closeAndFree_endsWith (y := x) hxi n.code
    rw [href] at hends
    exact ⟨hends.freed, hends.queued, hends.cells⟩
  · have hsegment : u.segment .i = m := by
      have hum : (u.port .i).peerSegment = some m := hm
      simp [State.segment, hum]
    let runs := runsOf m n.data.length n.data
    have hqueues := State.enqueueAll_queues (u.setExchange r.index (x.inService n runs.length)) .i (runDescriptors r 0 runs)
    rw [State.startService_of_data (runs := runs) (by rw [hsegment]) hdata]
    refine ⟨runs, runsOf_flatten le_rfl, fun _ => length_mem_dropLast_runsOf hpos, fun _ => length_mem_runsOf hpos, ?_, fun j hj => ?_,
      hqueues.lists, hqueues.cells hup, hqueues.queued⟩
    · rw [State.entry_congr hqueues.entries, State.setExchange_entry_self]
      exact congrArg (Entry.mk · _) (congrArg Entry.inc hentry)
    · rw [State.entry_congr hqueues.entries, State.setExchange_entry_ne _ _ hj]

end Sys2Proof.Machine
end

section
/-! The start list under every update of the part: which entries are in REPLYING, and with which snapshot (R104, R105). -/

namespace Sys2Proof.Machine

variable {s t : State} {i : EntryIndex} {x y : Exchange}

/-! ## Reading the invariant -/

/-- Entry i is not in REPLYING. -/
def State.NotReplying (s : State) (i : EntryIndex) : Prop := ∀ x, (s.entry i).exchange = some x → x.state ≠ .replying

theorem State.notReplying_of_free (h : (s.entry i).exchange = none) : s.NotReplying i := fun x hx => by rw [h] at hx; cases hx

theorem State.notReplying_of_exchange (h : (s.entry i).exchange = some x) (hx : x.state ≠ .replying) : s.NotReplying i :=
  fun y hy => by rw [h, Option.some.injEq] at hy; exact hy ▸ hx

theorem State.NotReplying.congr (h : s.NotReplying i) (he : t.entry i = s.entry i) : t.NotReplying i := by
  unfold State.NotReplying
  rw [he]
  exact h

/-- Each entry once makes at most as many places as there are entries. -/
theorem startList_length_le {l : List EntryRef} (h : (l.map EntryRef.index).Nodup) : l.length ≤ 64 := by
  simpa using h.length_le_card

/-- No snapshot waits where nothing is in REPLYING, and an empty list is legal there. -/
theorem State.startOk_of_none_replying (h : ∀ i, s.NotReplying i) (hl : s.startList = []) : s.startOk := by
  unfold State.startOk
  rw [hl]
  exact ⟨List.nodup_nil, Nat.zero_le _, nofun, fun i x n hx hstate => absurd hstate (h i x hx)⟩

/-! ## Changes of one entry -/

/-- The invariant reads the entries and the start list alone. -/
theorem State.startOk.congr (hs : s.startOk) (he : t.entries = s.entries) (hl : t.startList = s.startList) : t.startOk := by
  unfold State.startOk State.startPending State.exchangeAt State.refOf at hs ⊢
  simpa only [State.entry_congr he, hl] using hs

/-- Entry i is changed, and not in REPLYING afterwards: a place it may have had goes stale (log entry 30). -/
theorem State.startOk.of_entry (hs : s.startOk) (hothers : ∀ j, j ≠ i → t.entry j = s.entry j) (hi : t.NotReplying i)
    (hl : t.startList = s.startList) : t.startOk := by
  obtain ⟨hnodup, hroom, hpending, hlisted⟩ := hs
  unfold State.startOk
  rw [hl]
  refine ⟨hnodup, hroom, fun r hr hp => ?_, fun j x n hx hstate hn hstarted => ?_⟩
  · have hri : r.index ≠ i := by
      rintro rfl
      obtain ⟨x, hx, hstate⟩ := (Option.any_eq_true _ _).1 hp
      exact hi x (State.exchangeAt_exchange hx) (by simpa using hstate)
    have hat := State.exchangeAt_congr_entry (hothers _ hri)
    unfold State.startPending at hp
    rw [hat] at hp ⊢
    exact hpending r hr hp
  · have hji : j ≠ i := by rintro rfl; exact hi x hx hstate
    rw [hothers j hji] at hx
    rw [State.refOf, hothers j hji]
    exact hlisted j x n hx hstate hn hstarted

/-- An entry leaves REPLYING, or was never there. -/
theorem State.startOk.leave (hs : s.startOk) (i : EntryIndex) (hy : y.state ≠ .replying) : (s.setExchange i y).startOk :=
  hs.of_entry (fun _ hj => State.setExchange_entry_ne _ _ hj)
    (State.notReplying_of_exchange (congrArg _ (State.setExchange_entry_self ..)) hy) rfl

/-- An exchange takes a new record: one in REPLYING afterwards was so before, with the snapshot it has. -/
theorem State.startOk.setExchange (hs : s.startOk) (hx : (s.entry i).exchange = some x)
    (hy : y.state = .replying → x.state = .replying ∧ y.snapshot = x.snapshot) : (s.setExchange i y).startOk := by
  by_cases hreplying : y.state = .replying
  · obtain ⟨hstate, hsnapshot⟩ := hy hreplying
    obtain ⟨hnodup, hroom, hpending, hlisted⟩ := hs
    refine ⟨hnodup, hroom, fun r hr hp => ?_, fun j z n hz hz' hn hstarted => ?_⟩
    · have hold := hpending r hr
      unfold State.startPending State.exchangeAt at hp hold
      unfold State.exchangeAt
      rw [State.setExchange_entry] at hp ⊢
      by_cases hri : r.index = i
      · simp only [hri, hx, if_true, apply_ite, hsnapshot, Option.any_some, hstate, hreplying] at hp hold ⊢
        exact hold hp
      · simp only [hri, if_false] at hp ⊢
        exact hold hp
    · rw [State.setExchange_refOf]
      rw [State.setExchange_entry] at hz
      split at hz
      · next hji =>
        cases hz
        subst hji
        exact hlisted j x n hx hstate (hsnapshot ▸ hn) hstarted
      · exact hlisted j z n hz hz' hn hstarted
  · exact hs.leave i hreplying

/-- An entry that is freed, whatever its exchange took on the way. -/
theorem State.startOk.freeEntry_of (hs : s.startOk) (hothers : ∀ j, j ≠ i → t.entry j = s.entry j) (hl : t.startList = s.startList) :
    (t.freeEntry i).startOk :=
  hs.of_entry (fun j hj => (State.freeEntry_entry_ne _ hj).trans (hothers j hj))
    (State.notReplying_of_free (congrArg _ (State.freeEntry_entry_self ..))) ((State.freeEntry_startList ..).trans hl)

theorem State.startOk.freeEntry (hs : s.startOk) (i : EntryIndex) : (s.freeEntry i).startOk := hs.freeEntry_of (fun _ _ => rfl) rfl

theorem State.startOk.allocate (hs : s.startOk) (i : EntryIndex) (hy : y.state ≠ .replying) : (s.allocate i y).startOk :=
  hs.of_entry (fun _ hj => State.allocate_entry_ne _ _ hj)
    (State.notReplying_of_exchange (congrArg _ (State.allocate_entry_self ..)) hy) rfl

/-- A reply: an entry takes an exchange with a snapshot to be served, and its one place is at the tail (R104; log entry 30). -/
theorem State.startOk.reply (hs : s.startOk) (i : EntryIndex) (hx : (x.snapshot.any fun n => !n.started) = true) :
    ({ s.allocate i x with startList := s.startList.filter (fun a => a.index ≠ i) ++ [(s.allocate i x).refOf i] } : State).startOk := by
  obtain ⟨hnodup, -, hpending, hlisted⟩ := hs
  have hunique : ((s.startList.filter (fun a => a.index ≠ i) ++ [(s.allocate i x).refOf i]).map EntryRef.index).Nodup := by
    rw [List.map_append, List.nodup_append]
    refine ⟨hnodup.sublist (List.filter_sublist.map _), by simp, ?_⟩
    simp only [List.mem_map, List.mem_filter, decide_eq_true_eq, List.map_cons, List.map_nil, List.mem_singleton]
    rintro a ⟨r, ⟨-, hr⟩, rfl⟩ b rfl
    exact hr
  refine ⟨hunique, startList_length_le hunique, fun r hr hp => ?_, fun j y n hy hstate hn hstarted => ?_⟩
  · change ((s.allocate i x).exchangeAt r).any _ = true at hp
    change ((s.allocate i x).exchangeAt r).any _ = true
    obtain hr | hr := List.mem_append.1 hr
    · obtain ⟨hold, hri⟩ := List.mem_filter.1 hr
      rw [State.exchangeAt_congr_entry (State.allocate_entry_ne _ _ (of_decide_eq_true hri))] at hp ⊢
      exact hpending r hold hp
    · rw [List.mem_singleton.1 hr]
      simpa [State.exchangeAt, State.refOf, State.allocate_entry_self] using hx
  · change ((s.allocate i x).entry j).exchange = some y at hy
    change (s.allocate i x).refOf j ∈ s.startList.filter (fun a => a.index ≠ i) ++ [(s.allocate i x).refOf i]
    rw [List.mem_append]
    by_cases hji : j = i
    · exact .inr (by simp [hji])
    · rw [State.allocate_entry_ne _ _ hji] at hy
      rw [State.refOf, State.allocate_entry_ne _ _ hji]
      exact .inl (List.mem_filter.2 ⟨hlisted j y n hy hstate hn hstarted, decide_eq_true hji⟩)

/-! ## The head of the start list (R105) -/

section
variable {r : EntryRef} {rest : List EntryRef} {n : Snapshot}

/-- An entry of the head whose snapshot waits is at the head's incarnation: it has its place on the list, and the head is its entry's one. -/
theorem State.startOk.exchangeAt_head (hs : s.startOk) (hl : s.startList = r :: rest) (hx : (s.entry r.index).exchange = some x)
    (hstate : x.state = .replying) (hn : x.snapshot = some n) (hstarted : n.started = false) : s.exchangeAt r = some x := by
  obtain ⟨hnodup, -, -, hlisted⟩ := hs
  have hmem := hlisted r.index x n hx hstate hn hstarted
  rw [hl] at hmem hnodup
  have hhead : s.refOf r.index = r := (List.mem_cons.1 hmem).resolve_right fun hrest =>
    (List.nodup_cons.1 hnodup).1 (List.mem_map.2 ⟨_, hrest, rfl⟩)
  have hinc : (s.entry r.index).inc = r.inc := congrArg EntryRef.inc hhead
  rw [State.exchangeAt, if_pos hinc, hx]

/-- The head has left the list, and its entry holds no snapshot whose service has not started. -/
theorem State.startOk.of_head (hs : s.startOk) (hl : s.startList = r :: rest) (hothers : ∀ j, j ≠ r.index → t.entry j = s.entry j)
    (hrest : t.startList = rest)
    (hdone : ∀ x n, (t.entry r.index).exchange = some x → x.state = .replying → x.snapshot = some n → n.started = true) : t.startOk := by
  obtain ⟨hnodup, hroom, hpending, hlisted⟩ := hs
  rw [hl] at hnodup hroom hpending hlisted
  obtain ⟨hhead, hnodup⟩ := List.nodup_cons.1 hnodup
  unfold State.startOk
  rw [hrest]
  refine ⟨hnodup, startList_length_le hnodup, fun a ha hp => ?_, fun j x n hx hstate hn hstarted => ?_⟩
  · have hne : a.index ≠ r.index := fun he => hhead (he ▸ List.mem_map_of_mem ha)
    unfold State.startPending at hp
    rw [State.exchangeAt_congr_entry (hothers _ hne)] at hp ⊢
    exact hpending a (List.mem_cons_of_mem _ ha) hp
  · have hne : j ≠ r.index := by
      rintro rfl
      rw [hdone x n hx hstate hn] at hstarted
      cases hstarted
    rw [hothers j hne] at hx
    rw [State.refOf, hothers j hne]
    exact (List.mem_cons.1 (hlisted j x n hx hstate hn hstarted)).resolve_left fun he => hne (congrArg EntryRef.index he)

end

/-! ## Updates that touch neither the entries nor the start list -/

theorem State.startOk.setPort (hs : s.startOk) (p : Port) (r : PortRecord) : (s.setPort p r).startOk := hs.congr (by simp) (by simp)
theorem State.startOk.release (hs : s.startOk) (n : Nat) : (s.release n).startOk := hs.congr rfl rfl
theorem State.startOk.takeCells (hs : s.startOk) (n : Nat) : (s.takeCells n).startOk := hs.congr rfl rfl
theorem State.startOk.discard (hs : s.startOk) (f : List Byte) : (s.discard f).startOk := hs.congr rfl rfl
theorem State.startOk.post (hs : s.startOk) (a : Alert) : (s.post a).startOk := hs.congr (by simp) (by simp)
theorem State.startOk.enqueue (hs : s.startOk) (p : Port) (d : Descriptor) : (s.enqueue p d).startOk := hs.congr (by simp) (by simp)
theorem State.startOk.settle (hs : s.startOk) : s.settle.startOk := hs.congr (by simp) (by simp)

@[simp] theorem State.enqueueAll_startList (s : State) (p : Port) (ds : List Descriptor) : (s.enqueueAll p ds).startList = s.startList := by
  induction ds generalizing s with
  | nil => rfl
  | cons d ds ih => exact (ih _).trans (State.enqueue_startList ..)

theorem State.startOk.enqueueAll (hs : s.startOk) (p : Port) (ds : List Descriptor) : (s.enqueueAll p ds).startOk :=
  hs.congr (by simp) (by simp)

theorem State.startOk.endLease (hs : s.startOk) (why : LeaseEnd) : (s.endLease why).startOk := by
  refine hs.congr (State.endLease_entries ..) ?_
  unfold State.endLease
  split <;> simp

theorem State.startOk.withdrawUnseen (hs : s.startOk) (i : EntryIndex) (x : Exchange) : (s.withdrawUnseen i x).startOk :=
  hs.congr (State.withdrawUnseen_entries ..) (State.withdrawUnseen_startList ..)

theorem State.takeNext_startOk {c : Consumer} {p : Port} {f : List Byte} (h : s.takeNext c p = some (f, t)) (hs : s.startOk) : t.startOk := by
  obtain ⟨rest, -, rfl⟩ := State.takeNext_some h
  exact hs.setPort ..

theorem State.takeKind_startOk {p : Port} {k : Byte} {f : List Byte} (h : s.takeKind p k = some (f, t)) (hs : s.startOk) : t.startOk :=
  State.takeNext_startOk (State.takeKind_some h).2 hs

end Sys2Proof.Machine
end

section
/-! The start list through every operation of the part, in the order of the model's files (R104, R105). -/

namespace Sys2Proof.Machine

variable {s t : State} {i : EntryIndex} {x y : Exchange}

/-! ## How an exchange ends -/

theorem State.startOk.closeAndFree (hs : s.startOk) (i : EntryIndex) (x : Exchange) (code : Byte) : (s.closeAndFree i x code).startOk :=
  (hs.enqueue ..).freeEntry i

theorem State.startOk.closeManagement (hs : s.startOk) (i : EntryIndex) (x : Exchange) (code : Byte) (mark : Bool) :
    (s.closeManagement i x code mark).startOk :=
  (hs.enqueue ..).freeEntry i

theorem State.startOk.deliverStatus (hs : s.startOk) (i : EntryIndex) (x : Exchange) (k : ParkedStatus) : (s.deliverStatus i x k).startOk :=
  hs.freeEntry_of (fun _ hj => (State.enqueue_entry ..).trans (State.setExchange_entry_ne _ _ hj)) (State.enqueue_startList ..)

theorem State.startOk.enterAborting (hs : s.startOk) (i : EntryIndex) (x : Exchange) (g : Routing) (o : AbortOrigin) (closed : Bool) :
    (s.enterAborting i x g o closed).startOk :=
  (hs.leave i (by simp)).enqueue ..

theorem State.startOk.endWithStatus (hs : s.startOk) (i : EntryIndex) (x : Exchange) (code : Byte) (o : AbortOrigin) :
    (s.endWithStatus i x code o).startOk := by
  unfold State.endWithStatus
  split
  · next g _ => exact (hs.enterAborting i x g o true).enqueue ..
  · exact (hs.withdrawUnseen i x).closeAndFree ..

theorem State.startOk.phaseViolation (hs : s.startOk) (i : EntryIndex) (x : Exchange) (d : ViolationDetail) :
    (s.phaseViolation i x d).startOk :=
  (hs.endWithStatus i x _ _).post _

/-- A performance concludes on an exchange that is not in REPLYING, and what becomes of it is not (R140). -/
theorem conclude_startOk {r : OpResult} (hs : r.state.startOk) (hx : x.state ≠ .replying) : (State.conclude i x r).startOk := by
  have hwritten : ∀ a b z, Exchange.state z = x.state → (((r.state.takeCells a).release b).setExchange i z).startOk := fun a b z hz =>
    ((hs.takeCells a).release b).leave i (hz ▸ hx)
  simp only [State.conclude]
  split
  · split
    · exact (hwritten _ _ _ (by rfl)).closeManagement ..
    · exact ((hwritten _ _ _ (by rfl)).closeManagement ..).congr rfl rfl
    · exact ((hwritten _ _ _ (by rfl)).closeManagement ..).endLease _
  · exact (hwritten _ _ _ (by rfl)).enqueueAll ..

/-! ## END_EXCHANGE, HOLD_DECIDE and HOLD_LIST -/

theorem State.startOk.endByManagement (hs : s.startOk) (i : EntryIndex) (x : Exchange) : (s.endByManagement i x).startOk := by
  unfold State.endByManagement
  split
  · next ha => exact (hs.leave i (by simp [ha])).enqueue ..
  · exact hs.endWithStatus ..

theorem opEndExchange_startOk (hs : s.startOk) (i : EntryIndex) (params : List Byte) : (opEndExchange s i params).state.startOk := by
  simp only [opEndExchange]
  split
  · split
    · exact hs
    · split
      · exact hs
      · split
        · exact hs
        · split
          · exact hs
          · exact hs.endByManagement ..
  · exact hs

theorem State.startOk.releaseHeld (hs : s.startOk) (i : EntryIndex) (x : Exchange) (g : Routing) (f : List Byte) :
    (s.releaseHeld i x g f).startOk := by
  have hissued : ((s.withoutPlace i).setExchange i (s.releasedExchange i x)).startOk :=
    (hs.congr (t := s.withoutPlace i) rfl rfl).leave i (by simp [State.releasedExchange])
  rw [State.releaseHeld_eq]
  exact hissued.enqueue ..

theorem decideHeld_startOk (hs : s.startOk) (i : EntryIndex) (x : Exchange) (decision : Byte) : (decideHeld s i x decision).state.startOk := by
  simp only [decideHeld]
  split
  · exact hs.closeAndFree ..
  · split
    · split
      · exact hs.releaseHeld ..
      · exact hs.closeAndFree ..
    · exact hs

theorem opHoldDecide_startOk (hs : s.startOk) (params : List Byte) : (opHoldDecide s params).state.startOk := by
  simp only [opHoldDecide]
  split
  · split
    · exact hs
    · split
      · exact hs
      · split
        · exact hs
        · exact decideHeld_startOk hs ..
  · exact hs

theorem State.startOk.expireHold (hs : s.startOk) (i : EntryIndex) (x : Exchange) : (s.expireHold i x).startOk :=
  (hs.closeAndFree ..).post _

theorem State.startOk.expireHolds (hs : s.startOk) (places : List HoldPlace) : (s.expireHolds places).startOk := by
  induction places generalizing s with
  | nil => exact hs
  | cons k places ih =>
    unfold State.expireHolds
    split
    · exact ih (hs.expireHold ..)
    · exact ih hs

/-! ## The other operations -/

theorem opClaim_startOk (hs : s.startOk) (caller : InitiatorId) : (opClaim s caller).state.startOk := by
  refine hs.congr (opClaim_entries ..) ?_
  unfold opClaim
  split
  · split <;> rfl
  · rfl

theorem opWriteEntry_startOk (hs : s.startOk) (params body : List Byte) : (opWriteEntry s params body).state.startOk := by
  refine hs.congr (opWriteEntry_entries ..) ?_
  simp only [opWriteEntry]
  split
  · rfl
  · split
    · rfl
    · split
      · rfl
      · split
        · rfl
        · exact State.setStaging_startList ..

theorem opClearStaging_startOk (hs : s.startOk) : (opClearStaging s).state.startOk := by
  refine hs.congr (opClearStaging_entries ..) ?_
  unfold opClearStaging
  split
  · rfl
  · exact State.setStaging_startList ..

theorem opCommit_startOk (hs : s.startOk) : (opCommit s).state.startOk := by
  refine hs.congr (opCommit_entries ..) ?_
  simp only [opCommit]
  split
  · rfl
  · split
    · rfl
    · split <;> rfl

theorem opAlertAck_startOk (hs : s.startOk) (params : List Byte) : (opAlertAck s params).state.startOk := by
  refine hs.congr (opAlertAck_entries ..) ?_
  unfold opAlertAck
  split
  · rfl
  · split
    · exact State.withdraw_startList ..
    · rfl

/-! ## The performance (R139) -/

theorem carryOut_startOk (hs : s.startOk) (i : EntryIndex) (x : Exchange) (params : List Byte) (op : MgmtOp) :
    (carryOut s i x params op).state.startOk := by
  cases op with
  | holdList => exact hs.expireHolds _
  | holdDecide => exact opHoldDecide_startOk hs _
  | endExchange => exact opEndExchange_startOk hs ..
  | claim => exact opClaim_startOk hs _
  | releaseLease => exact hs.endLease _
  | readEntry => exact (opReadEntry_state s params).symm ▸ hs
  | readExchange => exact (opReadExchange_state s params).symm ▸ hs
  | writeEntry => exact opWriteEntry_startOk hs ..
  | clearStaging => exact opClearStaging_startOk hs
  | commit => exact opCommit_startOk hs
  | alertAck => exact opAlertAck_startOk hs _
  | identify | renew | linkState | warmReset => exact hs.congr rfl rfl

theorem operationResult_startOk (hs : s.startOk) (i : EntryIndex) (x : Exchange) : (operationResult s i x).state.startOk := by
  unfold operationResult
  split
  · exact hs
  · split
    · exact hs
    · split
      · exact hs
      · exact carryOut_startOk hs ..

theorem State.startOk.performOperation (hs : s.startOk) (i : EntryIndex) (hx : x.state ≠ .replying) : (s.performOperation i x).startOk :=
  conclude_startOk (operationResult_startOk hs i x) hx

/-! ## The verdict -/

theorem State.startOk.postDenial (hs : s.startOk) (f : List Byte) (code : Byte) (d : Option (ViewIndex × View)) :
    (s.postDenial f code d).startOk := by
  obtain h | ⟨a, h⟩ := s.postDenial_eq f code d
  · rw [h]; exact hs
  · rw [h]; exact hs.post a

theorem State.startOk.admitManagement (hs : s.startOk) (i : EntryIndex) (f : List Byte) : (s.admitManagement i f).startOk := by
  have hx : (managementExchange f).state ≠ .replying := nofun
  simp only [State.admitManagement]
  split
  · split
    · exact (hs.allocate i (y := s.awaitingBody (managementExchange f)) (by simp [State.awaitingBody])).enqueue ..
    · exact conclude_startOk (r := refuseOp (s.allocate i _) codeBadBody) (hs.allocate i hx) hx
  · exact (hs.allocate i hx).performOperation i hx

theorem State.startOk.admitHeld (hs : s.startOk) (i : EntryIndex) (k : ViewIndex) (v : View) (f : List Byte) : (s.admitHeld i k v f).startOk := by
  rw [State.admitHeld_eq s k v f rfl]
  refine State.startOk.post ?_ _
  exact (hs.allocate i (y := s.holdingExchange k v f) (by simp [State.holdingExchange])).congr rfl rfl

theorem State.startOk.admitReply (hs : s.startOk) (i : EntryIndex) (k : ViewIndex) (r : ReplyIndex) (record : ReplyRecord) (f : List Byte) :
    (s.admitReply i k r record f).startOk :=
  ((hs.takeCells _).discard f).reply i (by rfl)

theorem State.startOk.admitIssued (hs : s.startOk) (i : EntryIndex) (k : ViewIndex) (v : View) (f : List Byte) :
    (s.admitIssued i k v f).startOk :=
  (hs.allocate i (by simp [openingExchange])).enqueue ..

theorem State.startOk.takeRequest (hs : s.startOk) (f : List Byte) : (s.takeRequest f).startOk := by
  unfold State.takeRequest
  split
  · exact (hs.discard f).post _
  · unfold State.giveVerdict
    split
    · exact State.startOk.postDenial ((hs.release _).enqueue ..) ..
    · exact hs.admitManagement ..
    · exact hs.admitHeld ..
    · exact hs.admitReply ..
    · exact hs.admitIssued ..

/-! ## Frames of a target -/

/-- Taking a target's frame keeps the start list when the rule of its kind does on the entry it matches. -/
theorem State.startOk.takeTargetFrame {rule : EntryIndex → Exchange → Routing → State} (hs : s.startOk) (k : Target) (f : List Byte)
    (hrule : ∀ i x g, (s.entry i).exchange = some x → (rule i x g).startOk) : (s.takeTargetFrame k f rule).startOk := by
  unfold State.takeTargetFrame
  split
  · exact (hs.discard f).post _
  · split
    · split
      · exact hs.discard f
      · exact (hs.discard f).post _
    · next i x g hm =>
      obtain ⟨-, -, -, hx, -⟩ := State.matchTarget_eq_matched.1 hm
      exact hrule i x g hx

theorem State.startOk.proceedRule (hs : s.startOk) (k : Target) (f : List Byte) (i : EntryIndex) (x : Exchange) (g : Routing) :
    (s.proceedRule k f i x g).startOk := by
  unfold State.proceedRule
  split
  · exact (hs.discard f).post _
  · split
    · exact hs.discard f
    · split
      · exact (hs.discard f).phaseViolation ..
      · exact (hs.leave i (by simp)).enqueue ..

theorem State.startOk.targetDataRule (hs : s.startOk) (k : Target) (f : List Byte) (i : EntryIndex) (x : Exchange) (g : Routing) :
    (s.targetDataRule k f i x g).startOk := by
  unfold State.targetDataRule
  split
  · exact (hs.discard f).post _
  · split
    · exact hs.discard f
    · split
      · exact (hs.discard f).phaseViolation ..
      · exact (hs.leave i (by simp)).enqueue ..

theorem State.startOk.statusRule (hs : s.startOk) (hx : (s.entry i).exchange = some x) (k : Target) (f : List Byte) (g : Routing) :
    (s.statusRule k f i x g).startOk := by
  unfold State.statusRule
  split
  · exact (hs.discard f).post _
  · split
    · split
      · unfold State.endAbortByStatus
        split
        · exact (hs.discard f).freeEntry i
        · exact hs.deliverStatus ..
      · exact hs.discard f
    · split
      · unfold State.acceptStatus
        split
        · exact hs.deliverStatus ..
        · exact hs.setExchange hx fun hr => ⟨hr, rfl⟩
      · exact (hs.discard f).phaseViolation ..

theorem State.startOk.abortDoneRule (hs : s.startOk) (k : Target) (f : List Byte) (i : EntryIndex) (x : Exchange) (g : Routing) :
    (s.abortDoneRule k f i x g).startOk := by
  unfold State.abortDoneRule
  split
  · exact hs.discard f
  · split
    · split
      · unfold State.endAbortByDone
        split
        · exact (hs.discard f).freeEntry i
        · exact (hs.enqueue ..).freeEntry i
      · exact hs.discard f
    · exact (hs.discard f).post _

/-! ## DATA and ABORT from an initiator -/

theorem Exchange.withBodyFrame_not_replying (hx : x.state = .mgmtBody) (f : List Byte) : (x.withBodyFrame f).state ≠ .replying := by
  simp only [Exchange.withBodyFrame]
  split <;> simp [hx]

theorem State.startOk.bodyRule (hs : s.startOk) (i : EntryIndex) (hx : x.state = .mgmtBody) (f : List Byte) : (s.bodyRule i x f).startOk := by
  have hne := x.withBodyFrame_not_replying hx f
  unfold State.bodyRule
  split
  · exact (hs.discard f).phaseViolation ..
  · simp only [State.acceptBody]
    split
    · exact (hs.leave i hne).performOperation i hne
    · exact hs.leave i hne

theorem State.startOk.movingRule (hs : s.startOk) (hx : (s.entry i).exchange = some x) (g : Routing) (f : List Byte) :
    (s.movingRule i x g f).startOk := by
  unfold State.movingRule
  split
  · exact (hs.discard f).phaseViolation ..
  · have hmoved : (s.setExchange i { x with moved := x.moved + dataLength f }).startOk := hs.setExchange hx fun hr => ⟨hr, rfl⟩
    exact hmoved.enqueue ..

theorem State.startOk.initiatorDataRule (hs : s.startOk) (hx : (s.entry i).exchange = some x) (f : List Byte) :
    (s.initiatorDataRule i x f).startOk := by
  have hmoving : (match x.routing with
      | some g => s.movingRule i x g f
      | none => (s.discard f).phaseViolation i x (unwantedViolation f)).startOk := by
    split
    · exact hs.movingRule hx ..
    · exact (hs.discard f).phaseViolation ..
  unfold State.initiatorDataRule
  split
  · exact (hs.discard f).phaseViolation ..
  · split
    · exact (hs.discard f).post _
    · next hbody => exact hs.bodyRule i hbody f
    · exact hs.discard f
    · exact (hs.discard f).phaseViolation ..
    · exact (hs.discard f).phaseViolation ..
    · exact hmoving
    · exact hmoving

theorem State.startOk.takeInitiatorData (hs : s.startOk) (f : List Byte) : (s.takeInitiatorData f).startOk := by
  unfold State.takeInitiatorData
  split
  · exact (hs.discard f).post _
  · split
    · exact (hs.discard f).post _
    · next hm => exact hs.initiatorDataRule (State.matchInitiator_exchange hm) f

theorem State.startOk.abortMatched (hs : s.startOk) (i : EntryIndex) (x : Exchange) (f : List Byte) : (s.abortMatched i x f).startOk := by
  unfold State.abortMatched
  split
  · exact hs.enqueue ..
  · split
    · exact (hs.discard f).enterAborting ..
    · exact ((hs.withdrawUnseen i x).enqueue ..).freeEntry i

theorem State.startOk.takeAbort (hs : s.startOk) (f : List Byte) : (s.takeAbort f).startOk := by
  unfold State.takeAbort
  split
  · exact (hs.discard f).post _
  · split
    · exact (hs.discard f).post _
    · split
      · exact hs.enqueue ..
      · split
        · exact hs.enqueue ..
        · exact hs.abortMatched ..

/-! ## Egress -/

theorem State.startOk.markSent (hs : s.startOk) (r : EntryRef) : (s.markSent r).startOk := by
  unfold State.markSent
  split
  · exact hs
  · next x hx =>
    split
    · exact hs
    · split
      · exact hs.setExchange (State.exchangeAt_exchange hx) fun hr => ⟨hr, rfl⟩
      · exact hs

theorem State.startOk.dataLeft (hs : s.startOk) (i : EntryIndex) (x : Exchange) : (s.dataLeft i x).startOk := by
  unfold State.dataLeft
  split
  · exact hs.deliverStatus ..
  · exact hs.closeAndFree ..
  · exact hs.closeManagement ..
  · exact hs

/-- DATA waiting falls, and the exchange `y` is in the state and has the snapshot of the entry's (R74). -/
theorem State.startOk.dataGone (hs : s.startOk) (hx : (s.entry i).exchange = some x) (hstate : y.state = x.state)
    (hsnapshot : y.snapshot = x.snapshot) : (s.dataGone i y).startOk := by
  have hfewer : (s.setExchange i { y with dataWaiting := y.dataWaiting - 1 }).startOk :=
    hs.setExchange hx fun hr => ⟨hstate.symm.trans hr, hsnapshot⟩
  simp only [State.dataGone]
  split
  · exact hfewer.dataLeft ..
  · exact hfewer

theorem Exchange.withRun_snapshot (x : Exchange) (payload : List Byte) : (x.withRun payload).snapshot = x.snapshot := by
  unfold Exchange.withRun
  split <;> rfl

theorem State.startOk.dataSent (hs : s.startOk) (d : Descriptor) : (s.dataSent d).startOk := by
  unfold State.dataSent
  split
  · exact hs
  · split
    · exact hs
    · next x hx =>
      split
      · exact hs.dataGone (State.exchangeAt_exchange hx) (x.withRun_state _) (x.withRun_snapshot _)
      · exact hs.dataGone (State.exchangeAt_exchange hx) rfl rfl

/-- A warm reset leaves every entry FREE and the start list empty (R147, R148). -/
theorem State.takeWarmReset_startOk (s : State) : s.takeWarmReset.startOk :=
  State.startOk_of_none_replying (fun i => State.notReplying_of_free (by rw [State.takeWarmReset_entry])) rfl

theorem State.startOk.completed (hs : s.startOk) (p : Port) (d : Descriptor) : (s.completed p d).startOk := by
  have hdata : (if p = .i ∧ d.isData = true then s.dataSent d else s).startOk := by
    split
    · exact hs.dataSent d
    · exact hs
  have hsent : ∀ u : State, u.startOk → (match d.entry with
      | some r => if d.isRequest then u.markSent r else u
      | none => u).startOk := by
    intro u hu
    split
    · split
      · exact hu.markSent _
      · exact hu
    · exact hu
  have halerted : ∀ u : State, u.startOk → (if d.isAlert then u.alertSent else u).startOk := by
    intro u hu
    split
    · exact hu.congr rfl rfl
    · exact hu
  simp only [State.completed]
  split
  · exact State.takeWarmReset_startOk _
  · exact halerted _ (hsent _ hdata)

theorem State.startOk.sendHead (hs : s.startOk) (p : Port) (d : Descriptor) (rest : List Descriptor) : (s.sendHead p d rest).startOk := by
  simp only [State.sendHead]
  split
  · exact hs.setPort ..
  · exact ((hs.setPort ..).release _).completed p d

theorem State.startOk.dataDropped (hs : s.startOk) (d : Descriptor) : (s.dataDropped d).startOk := by
  unfold State.dataDropped
  split
  · exact hs
  · next r _ =>
    split
    · exact hs
    · next x hx =>
      have hfewer : (s.setExchange r.index { x with dataWaiting := x.dataWaiting - 1 }).startOk :=
        hs.setExchange (x := x) (State.exchangeAt_exchange hx) fun hr => ⟨hr, rfl⟩
      dsimp only
      split
      · split
        · exact hfewer.deliverStatus ..
        · exact hfewer
      · exact hfewer

theorem State.startOk.dropHead (hs : s.startOk) (p : Port) (d : Descriptor) (rest : List Descriptor) : (s.dropHead p d rest).startOk := by
  have hleft := (hs.setPort p { s.port p with egress := rest }).release d.cells
  simp only [State.dropHead]
  split
  · exact hleft.dataDropped d
  · exact hleft

/-! ## Teardown and bring-up -/

theorem State.startOk.endRouted (hs : s.startOk) (k : Target) (i : EntryIndex) : (s.endRouted k i).startOk := by
  unfold State.endRouted
  split
  · exact hs
  · split
    · exact hs
    · split
      · exact hs
      · split
        · exact hs.freeEntry i
        · exact hs.closeAndFree ..

theorem State.startOk.foldl_endRouted (hs : s.startOk) (k : Target) (l : List EntryIndex) : (l.foldl (State.endRouted k) s).startOk := by
  induction l generalizing s with
  | nil => exact hs
  | cons i l ih => exact ih (hs.endRouted k i)

/-- The end of one entry at a teardown of port I leaves that entry out of REPLYING and touches no other (R133). -/
theorem State.endUnheard_entries (s : State) (i : EntryIndex) :
    (s.endUnheard i).NotReplying i ∧ ∀ j, j ≠ i → (s.endUnheard i).entry j = s.entry j := by
  unfold State.endUnheard
  split
  · next hfree => exact ⟨State.notReplying_of_free hfree, fun _ _ => rfl⟩
  · split
    · next ha =>
      exact ⟨State.notReplying_of_exchange (congrArg _ (State.setExchange_entry_self ..)) (by simp [ha]),
        fun j hj => State.setExchange_entry_ne _ _ hj⟩
    · split
      · exact ⟨State.notReplying_of_exchange (congrArg _ ((State.enqueue_entry ..).trans (State.setExchange_entry_self ..))) (by simp),
          fun j hj => (State.enqueue_entry ..).trans (State.setExchange_entry_ne _ _ hj)⟩
      · exact ⟨State.notReplying_of_free (congrArg _ (State.freeEntry_entry_self ..)),
          fun j hj => (State.freeEntry_entry_ne _ hj).trans (State.withdrawUnseen_entry ..)⟩

theorem State.foldl_endUnheard_notReplying (l : List EntryIndex) (h : i ∈ l ∨ s.NotReplying i) :
    (l.foldl State.endUnheard s).NotReplying i := by
  induction l generalizing s with
  | nil => exact h.resolve_left List.not_mem_nil
  | cons j l ih =>
    obtain ⟨hself, hothers⟩ := s.endUnheard_entries j
    refine ih ?_
    by_cases hij : i = j
    · exact .inr (hij ▸ hself)
    · exact h.imp (fun hmem => (List.mem_cons.1 hmem).resolve_left hij) fun hnot => hnot.congr (hothers i hij)

/-- A teardown of port I takes every entry out of REPLYING and empties the start list (R133). -/
theorem State.endInitiatorLink_startOk (s : State) : s.endInitiatorLink.startOk := by
  have hnone : ∀ i, (allEntries.foldl State.endUnheard s).NotReplying i := fun i =>
    State.foldl_endUnheard_notReplying allEntries (.inl (List.mem_finRange i))
  unfold State.endInitiatorLink
  generalize allEntries.foldl State.endUnheard s = u at hnone
  exact State.startOk_of_none_replying (fun i => (hnone i).congr rfl) rfl

theorem State.startOk.teardown (hs : s.startOk) (p : Port) (next : PortState) (why : LinkDetail) : (s.teardown p next why).startOk := by
  have hcleared : ((s.clearPort p next).postLink p why).startOk := State.startOk.post ((hs.setPort ..).release _) _
  unfold State.teardown State.endDependants
  split
  · exact (State.endInitiatorLink_startOk _).endLease _
  · exact hcleared.foldl_endRouted ..
  · exact hcleared.foldl_endRouted ..

theorem State.startOk.launchInit (hs : s.startOk) (p : Port) : (s.launchInit p).startOk := (hs.setPort ..).takeCells _

theorem State.startOk.leaveInitWait (hs : s.startOk) (p : Port) (next : PortState) (failures : Nat) :
    (s.leaveInitWait p next failures).startOk :=
  (hs.setPort ..).release _

theorem State.startOk.judgeInit (hs : s.startOk) (p : Port) (f : List Byte) : (s.judgeInit p f).startOk := by
  unfold State.judgeInit
  split
  · exact (hs.setPort ..).post _
  · exact (hs.leaveInitWait ..).post _

theorem State.startOk.storeArrival (hs : s.startOk) (p : Port) (f : List Byte) : (s.storeArrival p f).startOk := by
  simp only [State.storeArrival]
  split
  · exact ((hs.setPort ..).release _).post _
  · exact (hs.setPort ..).release _

/-! ## Reply service (R105) -/

/-- Once the service of the head has started, or it has closed at once, its entry holds no snapshot that waits. -/
theorem State.startOk.startService {r : EntryRef} {rest : List EntryRef} (hs : s.startOk) (hl : s.startList = r :: rest)
    (hx : (s.entry r.index).exchange = some x) (n : Snapshot) : (({ s with startList := rest } : State).startService r x n).startOk := by
  by_cases hempty : n.data = []
  · rw [State.startService_of_empty hempty]
    obtain ⟨hself, hothers, -, hrest⟩ := State.closeAndFree_freed (s := { s with startList := rest }) n.code hx
    exact hs.of_head hl hothers hrest fun y _ hy => by rw [hself] at hy; cases hy
  · rw [State.startService_of_data rfl hempty]
    refine hs.of_head hl (fun j hj => ?_) (State.enqueueAll_startList ..) fun y k hy _ hk => ?_
    · exact (State.entry_congr (State.enqueueAll_entries ..) j).trans (State.setExchange_entry_ne _ _ hj)
    · rw [State.entry_congr (State.enqueueAll_entries ..), State.setExchange_entry_self] at hy
      cases hy
      cases hk
      rfl

/-- Service takes the head from the list, and nothing is queued for it only where no snapshot of its entry waits. -/
theorem State.startOk.serve {r : EntryRef} {rest : List EntryRef} (hs : s.startOk) (hl : s.startList = r :: rest) :
    (({ s with startList := rest } : State).serve r).startOk := by
  obtain ⟨hserve, hidle⟩ | ⟨x, n, hx, -, -, -, hserve⟩ := State.serve_cases { s with startList := rest } r
  · rw [hserve]
    refine hs.of_head hl (fun _ _ => rfl) rfl fun x n hx hstate hn => ?_
    by_contra hstarted
    exact hstarted (hidle x n (hs.exchangeAt_head hl hx hstate hn (Bool.eq_false_of_not_eq_true hstarted)) hstate hn)
  · rw [hserve]
    exact hs.startService hl (State.exchangeAt_exchange hx) n

end Sys2Proof.Machine
end

section
/-! Every event keeps the start list: each entry once, and every snapshot whose service has not started (R104, R105; O56). -/

namespace Sys2Proof.Machine

variable {s t : State}

theorem State.startOk.postWrongLink (hs : s.startOk) (p : Port) (f : List Byte) : (s.postWrongLink p f).startOk := by
  unfold State.postWrongLink
  split
  · exact hs.post _
  · exact hs.post _

theorem State.startOk.completeResync (hs : s.startOk) : s.completeResync.startOk :=
  hs.congr ((State.post_entries ..).trans (State.setStaging_entries ..)) ((State.post_startList ..).trans (State.setStaging_startList ..))

theorem State.startOk.occurs (hs : s.startOk) (h : s.Occurs t) : t.startOk := by
  cases h with
  | verdict h => exact (State.takeNext_startOk h hs).takeRequest _
  | initiatorData h => exact (State.takeKind_startOk h hs).takeInitiatorData _
  | initiatorAbort h => exact (State.takeKind_startOk h hs).takeAbort _
  | targetProceed h =>
    have hu := State.takeKind_startOk h hs
    exact hu.takeTargetFrame _ _ fun i x g _ => hu.proceedRule _ _ i x g
  | targetData h =>
    have hu := State.takeKind_startOk h hs
    exact hu.takeTargetFrame _ _ fun i x g _ => hu.targetDataRule _ _ i x g
  | targetStatus h =>
    have hu := State.takeKind_startOk h hs
    exact hu.takeTargetFrame _ _ fun _ _ g hx => hu.statusRule hx _ _ g
  | targetAbortDone h =>
    have hu := State.takeKind_startOk h hs
    exact hu.takeTargetFrame _ _ fun i x g _ => hu.abortDoneRule _ _ i x g
  | unknownKind h => exact ((State.takeNext_startOk h hs).discard _).post _
  | wrongLink h => exact ((State.takeNext_startOk h hs).discard _).postWrongLink ..
  | exchangeExpiry => exact (hs.endWithStatus ..).post _
  | graceOver => exact hs.freeEntry _
  | graceAnswered => exact (hs.enqueue ..).freeEntry _
  | holdExpiry => exact hs.expireHold ..
  | bodyExpiry => exact (hs.closeAndFree ..).post _
  | leaseExpiry => exact hs.endLease _
  | resendExpiry => exact hs.congr (State.enqueue_entries ..) (State.enqueue_startList ..)
  | resyncCompletion => exact hs.completeResync
  | replyService hl => exact hs.serve hl
  | transmission => exact hs.sendHead ..
  | headDiscard => exact hs.dropHead ..
  | signalLossUp => exact hs.teardown ..
  | signalLossDown => exact hs.leaveInitWait ..
  | initRetry => exact hs.leaveInitWait ..
  | initFailure => exact (hs.leaveInitWait ..).post _
  | initJudged => exact hs.judgeInit ..
  | peerRestart => exact ((hs.teardown ..).launchInit _).judgeInit ..
  | creditOverrun => exact State.startOk.teardown (hs.post _) ..
  | creditAdded => exact hs.setPort ..
  | noCredit => exact State.startOk.teardown (hs.post _) ..
  | frameStored => exact hs.storeArrival ..

theorem State.startOk.occursPlain (hs : s.startOk) (h : s.OccursPlain t) : t.startOk := by
  cases h with
  | signalPresent => exact hs.setPort ..
  | laneLock => exact hs.launchInit _
  | creditSend => exact hs.setPort ..
  | clockTick => exact hs.congr rfl rfl

theorem State.startOk.answers (hs : s.startOk) (h : s.Answers t) : t.startOk := by
  cases h with
  | absent => exact hs
  | powerOn pin => exact State.reset_startOk.congr rfl rfl
  | settled h => exact (hs.occurs h).settle
  | plain h => exact hs.occursPlain h

/-- Settles O56: an entry enters REPLYING with its place at a reply alone, and its service takes the place and starts the snapshot in one event;
whatever else takes it from REPLYING leaves the place stale. -/
theorem eventsKeepStartList : Obligations.EventsKeepStartList := by
  intro s t hs h
  obtain ⟨rest, h⟩ := step_answers h
  exact (hs.congr (t := { s with pending := rest }) rfl rfl).answers h

end Sys2Proof.Machine
end

section
/-! Credit grants and batch formation, as they end an event, and what they leave to be done: nothing (R116, R159; log entries 10 and 11). -/

namespace Sys2Proof.Machine

variable {s t : State} {p : Port}

/-! ## One grant (R116) -/

theorem State.eligible_iff : s.eligible p = true ↔ (s.port p).state = .up ∧ (s.port p).outstanding < creditLimit p := by
  simp [State.eligible, State.isUp]

/-- Eligibility reads the port's own record alone. -/
theorem State.eligible_congr (hstate : (t.port p).state = (s.port p).state) (hout : (t.port p).outstanding = (s.port p).outstanding) :
    t.eligible p = s.eligible p := by
  simp only [State.eligible, State.isUp, hstate, hout]

/-- The state after one grant to port p. -/
def State.granted (s : State) (p : Port) : State :=
  { (s.setPort p { s.port p with owed := (s.port p).owed + 1 }).takeCells Config.creditCells with rotation := nextPort p }

theorem State.granted_port (s : State) (p q : Port) :
    (s.granted p).port q = if q = p then { s.port p with owed := (s.port p).owed + 1 } else s.port q := by
  cases p <;> cases q <;> rfl

theorem State.granted_freeCells (s : State) (p : Port) : (s.granted p).freeCells = s.freeCells - 9 := by
  cases p <;> rfl

theorem State.grantOne_of_grantee (hfree : 9 ≤ s.freeCells) (h : s.grantee = some p) : s.grantOne = some (s.granted p) := by
  have hlt : ¬s.freeCells < Config.creditCells := Nat.not_lt.2 hfree
  unfold State.grantOne
  rw [if_neg hlt, h]
  rfl

theorem State.grantOne_cases (h : s.grantOne = some t) : 9 ≤ s.freeCells ∧ ∃ p, s.eligible p = true ∧ t = s.granted p := by
  obtain ⟨hfree, p, -, hp, ht⟩ := State.grantOne_some h
  exact ⟨hfree, p, hp, ht⟩

/-- The rotation passes every port. -/
theorem State.grantee_none : s.grantee = none ↔ ∀ p, s.eligible p = false := by
  have hall : ∀ p, p ∈ [s.rotation, nextPort s.rotation, nextPort (nextPort s.rotation)] := fun p => by
    cases p <;> cases s.rotation <;> simp [nextPort]
  simp only [State.grantee, List.find?_eq_none, Bool.not_eq_true]
  exact ⟨fun h p => h p (hall p), fun h p _ => h p⟩

/-- The port that a grant is tried at first, second or third, those before it not being eligible. -/
theorem State.grantee_of (hp : s.eligible p = true)
    (h : p = s.rotation ∨ p = nextPort s.rotation ∧ s.eligible s.rotation = false
      ∨ p = nextPort (nextPort s.rotation) ∧ s.eligible s.rotation = false ∧ s.eligible (nextPort s.rotation) = false) :
    s.grantee = some p := by
  unfold State.grantee
  obtain rfl | ⟨rfl, h1⟩ | ⟨rfl, h1, h2⟩ := h
  · simp [hp]
  · simp [hp, h1]
  · simp [hp, h1, h2]

/-! ## Grants until none can be made (R116) -/

/-- How many more grants a port can take. -/
def State.creditRoom (s : State) (p : Port) : Nat := if s.isUp p then creditLimit p - (s.port p).outstanding else 0

/-- How many more grants the ports can take together. -/
def State.grantRoom (s : State) : Nat := s.creditRoom .i + s.creditRoom .t0 + s.creditRoom .t1

/-- The three limits sum to 64 (R113). -/
theorem State.grantRoom_le (s : State) : s.grantRoom ≤ Config.creditLimitI + Config.creditLimitT + Config.creditLimitT := by
  have hroom : ∀ p, s.creditRoom p ≤ creditLimit p := fun p => by unfold State.creditRoom; split <;> omega
  exact Nat.add_le_add (Nat.add_le_add (hroom .i) (hroom .t0)) (hroom .t1)

theorem State.creditRoom_granted_self (h : s.eligible p = true) : (s.granted p).creditRoom p + 1 = s.creditRoom p := by
  obtain ⟨hup, hroom⟩ := State.eligible_iff.1 h
  simp only [PortRecord.outstanding] at hroom
  simp only [State.creditRoom, State.isUp, State.granted_port, if_true, hup, PortRecord.outstanding, beq_self_eq_true]
  omega

theorem State.creditRoom_granted_ne {q : Port} (h : q ≠ p) : (s.granted p).creditRoom q = s.creditRoom q := by
  simp [State.creditRoom, State.isUp, State.granted_port, h]

/-- A grant uses one of them up. -/
theorem State.grantRoom_granted (h : s.eligible p = true) : (s.granted p).grantRoom + 1 = s.grantRoom := by
  have hself := State.creditRoom_granted_self h
  have hothers : ∀ q, q ≠ p → (s.granted p).creditRoom q = s.creditRoom q := fun q => State.creditRoom_granted_ne
  unfold State.grantRoom
  cases p with
  | i => rw [hothers .t0 nofun, hothers .t1 nofun]; omega
  | t0 => rw [hothers .i nofun, hothers .t1 nofun]; omega
  | t1 => rw [hothers .i nofun, hothers .t0 nofun]; omega

/-- As many tries as grants can be taken leave none to be made. -/
theorem State.grantUpTo_grantOne {n : Nat} (h : s.grantRoom ≤ n) : (s.grantUpTo n).grantOne = none := by
  induction n generalizing s with
  | zero =>
    cases hone : s.grantOne with
    | none => exact hone
    | some t =>
      obtain ⟨-, p, hp, -⟩ := State.grantOne_cases hone
      have hroom := State.grantRoom_granted hp
      omega
  | succ n ih =>
    unfold State.grantUpTo
    split
    · next t hone =>
      obtain ⟨-, p, hp, rfl⟩ := State.grantOne_cases hone
      have hroom := State.grantRoom_granted hp
      exact ih (by omega)
    · next hone => exact hone

theorem State.grant_grantOne (s : State) : s.grant.grantOne = none := State.grantUpTo_grantOne s.grantRoom_le

/-- Owed credit of the three ports. -/
def State.owedCredit (s : State) : Nat := (s.port .i).owed + (s.port .t0).owed + (s.port .t1).owed

/-- n grants have been made: of the ports only owed credit has changed, and each grant has cost nine cells. -/
structure State.Grants (s t : State) (n : Nat) : Prop where
  cells : t.freeCells + 9 * n = s.freeCells
  owed : t.owedCredit = s.owedCredit + n
  port : ∀ p, t.port p = { s.port p with owed := (t.port p).owed }

theorem State.Grants.refl (s : State) : s.Grants s 0 := ⟨rfl, rfl, fun _ => rfl⟩

theorem State.granted_grants (hfree : 9 ≤ s.freeCells) (p : Port) : s.Grants (s.granted p) 1 := by
  refine ⟨by rw [State.granted_freeCells]; omega, ?_, fun q => ?_⟩
  · simp only [State.owedCredit, State.granted_port]
    cases p <;> simp only [reduceCtorEq, if_true, if_false] <;> omega
  · rw [State.granted_port]
    split
    · next h => subst h; rfl
    · rfl

theorem State.Grants.trans {u : State} {m n : Nat} (h : s.Grants t m) (k : t.Grants u n) : s.Grants u (m + n) := by
  obtain ⟨hcells, howed, hport⟩ := h
  obtain ⟨kcells, kowed, kport⟩ := k
  exact ⟨by omega, by omega, fun p => by rw [kport p, hport p]⟩

theorem State.grantUpTo_grants (k : Nat) (s : State) : ∃ n, s.Grants (s.grantUpTo k) n := by
  induction k generalizing s with
  | zero => exact ⟨0, .refl s⟩
  | succ k ih =>
    unfold State.grantUpTo
    split
    · next t hone =>
      obtain ⟨hfree, p, -, rfl⟩ := State.grantOne_cases hone
      obtain ⟨n, hn⟩ := ih (s.granted p)
      exact ⟨1 + n, (State.granted_grants hfree p).trans hn⟩
    · exact ⟨0, .refl s⟩

theorem State.grant_grants (s : State) : ∃ n, s.Grants s.grant n := State.grantUpTo_grants _ s

/-! ## The batch (R159) -/

/-- A batch waits to be formed: none is in flight, there is an owner, and the queue is not empty. -/
def State.forms (s : State) : Prop := s.batch = none ∧ s.lease ≠ none ∧ s.alerts ≠ []

/-- The batch in flight once it has been formed, before its descriptor is queued. -/
def State.withBatch (s : State) : State :=
  { s with
    sequence := s.sequence + 1#16,
    batch := some { size := min 4 s.alerts.length, sequence := s.sequence + 1#16, carried := s.dropped, resend := none, sentOnce := false },
    dropped := 0 }

theorem State.formBatch_of_forms (h : s.forms) : s.formBatch = s.withBatch.enqueue .i { content := .alert } := by
  obtain ⟨hbatch, hlease, halerts⟩ := h
  exact if_pos ⟨by simp [hbatch], Option.isSome_iff_ne_none.2 hlease, halerts⟩

theorem State.formBatch_of_not_forms (h : ¬s.forms) : s.formBatch = s :=
  if_neg fun ⟨hbatch, hlease, halerts⟩ => h ⟨Option.isNone_iff_eq_none.1 hbatch, Option.isSome_iff_ne_none.1 hlease, halerts⟩

/-- What joins port I's queue when a batch is formed: its descriptor, where port I is UP (R120, R126). -/
theorem State.formBatch_port (s : State) :
    ∃ ds, (ds = [] ∨ ds = [{ content := .alert }]) ∧ (¬s.forms → ds = [])
      ∧ ∀ p, s.formBatch.port p = { s.port p with egress := (s.port p).egress ++ (if p = .i then ds else []) } := by
  by_cases h : s.forms
  · rw [State.formBatch_of_forms h]
    have hport : ∀ p, s.withBatch.port p = s.port p := fun _ => rfl
    cases hup : s.withBatch.isUp .i
    · exact ⟨[], .inl rfl, fun _ => rfl, fun p => by simp [State.enqueue_port, hport, hup]⟩
    · exact ⟨[{ content := .alert }], .inr rfl, fun hn => absurd h hn, fun p => by simp [State.enqueue_port, hport, hup]⟩
  · rw [State.formBatch_of_not_forms h]
    exact ⟨[], .inl rfl, fun _ => rfl, fun p => by simp⟩

theorem State.formBatch_freeCells (s : State) : s.formBatch.freeCells = s.freeCells := by
  by_cases h : s.forms
  · rw [State.formBatch_of_forms h, State.enqueue_freeCells]
    split <;> rfl
  · rw [State.formBatch_of_not_forms h]

theorem State.formBatch_not_forms (s : State) : ¬s.formBatch.forms := by
  by_cases h : s.forms
  · rw [State.formBatch_of_forms h]
    rintro ⟨hbatch, -⟩
    rw [State.enqueue_batch] at hbatch
    cases hbatch
  · rwa [State.formBatch_of_not_forms h]

/-! ## Settling -/

/-- Settled: no grant can be made, and no batch waits to be formed. -/
theorem State.settled_iff : s.settled ↔ s.grantOne = none ∧ ¬s.forms := by
  rw [State.grantOne_none, State.grantee_none, State.settled, State.forms, Option.isSome_iff_ne_none]

/-- Whatever state an event leaves, it is settled once the grants and the batch have been made. -/
theorem State.settle_settled (s : State) : s.settle.settled := by
  refine State.settled_iff.2 ⟨?_, s.grant.formBatch_not_forms⟩
  have hnone := s.grant_grantOne
  obtain ⟨ds, -, -, hport⟩ := s.grant.formBatch_port
  have heligible : ∀ p, s.settle.eligible p = s.grant.eligible p := fun p =>
    State.eligible_congr (by rw [State.settle, hport]) (by rw [State.settle, hport]; rfl)
  have hfree : s.settle.freeCells = s.grant.freeCells := s.grant.formBatch_freeCells
  rw [State.grantOne_none, State.grantee_none] at hnone ⊢
  simpa only [heligible, hfree] using hnone

/-- Settles O11: a grant is given to the first eligible port in rotation; settling is as many grants as can be made, and then the batch. -/
theorem grantsAndBatchSettle : Obligations.GrantsAndBatchSettle := by
  refine ⟨fun s => ⟨fun h => s.grantOne_none.2 (.inl h), fun p hfree hturn hup hroom => ?_⟩, fun s => ?_⟩
  · have hp : s.eligible p = true := State.eligible_iff.2 ⟨hup, by cases p <;> exact hroom⟩
    rw [State.grantOne_of_grantee hfree (State.grantee_of hp hturn)]
    cases p <;> rfl
  · obtain ⟨n, hcells, howed, hport⟩ := s.grant_grants
    obtain ⟨ds, hds, hidle, hqueue⟩ := s.grant.formBatch_port
    have hsettle : ∀ p, s.settle.port p = { s.grant.port p with egress := (s.grant.port p).egress ++ (if p = .i then ds else []) } := hqueue
    refine ⟨n, ds, ?_, ?_, fun p => ?_, hds, fun i => s.settle_entry i, ⟨s.settle_holdQueue, s.settle_startList⟩,
      ⟨s.settle_bankA, s.settle_bankB, s.settle_active, s.settle_generation, s.settle_dirty, s.settle_resync⟩, s.settle_alerts,
      s.settle_resetPin, s.settle_clock, s.settle_lease, s.settle_warmPending, s.settle_freeCount, s.settle_pending, ?_⟩
    · rw [show s.settle.freeCells = s.grant.freeCells from s.grant.formBatch_freeCells]
      exact hcells
    · simp only [hsettle]
      exact howed
    · rw [hsettle, hport]
    · have hforms : s.grant.forms ↔ s.batch = none ∧ s.lease ≠ none ∧ s.alerts ≠ [] := by simp [State.forms]
      split
      · next h =>
        rw [State.settle, State.formBatch_of_forms (hforms.2 h)]
        simp [State.withBatch]
      · next h =>
        rw [State.settle, State.formBatch_of_not_forms (mt hforms.1 h)]
        exact ⟨s.grant_sequence, s.grant_dropped, s.grant_batch, hidle (mt hforms.1 h)⟩

/-! ## Events that end without settling -/

/-- Fewer cells or as many, no port eligible that was not, and what the batch depends on as it was: nothing to be settled has arisen. -/
theorem State.settled.mono (hs : s.settled) (hfree : t.freeCells ≤ s.freeCells) (helig : ∀ p, t.eligible p = true → s.eligible p = true)
    (hbatch : t.batch = s.batch) (hlease : t.lease = s.lease) (halerts : t.alerts = s.alerts) : t.settled := by
  obtain ⟨hgrants, hforms⟩ := hs
  refine ⟨hgrants.imp (Nat.lt_of_le_of_lt hfree) fun h p => ?_, by rwa [hbatch, hlease, halerts]⟩
  exact Bool.eq_false_of_not_eq_true fun ht => Bool.eq_false_iff.1 (h p) (helig p ht)

/-- One port's record has changed: where it is UP it was so before, with the same outstanding credit. -/
theorem State.eligible_of_setPort {r : PortRecord} {q : Port} (hport : ∀ q, t.port q = (s.setPort p r).port q)
    (hr : r.state = .up → (s.port p).state = .up ∧ r.outstanding = (s.port p).outstanding) (h : t.eligible q = true) : s.eligible q = true := by
  obtain ⟨hup, hroom⟩ := State.eligible_iff.1 h
  rw [hport, State.setPort_port] at hup hroom
  split at hup
  · next hq =>
    subst hq
    obtain ⟨hstate, hout⟩ := hr hup
    exact State.eligible_iff.2 ⟨hstate, by rwa [if_pos rfl, hout] at hroom⟩
  · next hq => exact State.eligible_iff.2 ⟨hup, by rwa [if_neg hq] at hroom⟩

theorem State.settled.occursPlain (hs : s.settled) (h : s.OccursPlain t) : t.settled := by
  cases h with
  | signalPresent =>
    exact hs.mono (by simp) (fun q => State.eligible_of_setPort (fun _ => rfl) nofun) (by simp) (by simp) (by simp)
  | laneLock =>
    refine hs.mono ?_ (fun q => State.eligible_of_setPort (fun _ => State.takeCells_port ..) nofun) ?_ ?_ ?_
    all_goals simp [State.launchInit]
  | creditSend =>
    refine hs.mono (by simp) (fun q => State.eligible_of_setPort (fun _ => rfl) fun hup => ⟨hup, ?_⟩) (by simp) (by simp) (by simp)
    exact Nat.add_zero _
  | clockTick => exact hs

/-- At power-on no port is UP and no one owns the lease. -/
theorem State.powerOn_settled (s : State) (pin : Bool) : (s.powerOn pin).settled :=
  State.reset_settled.mono (by rfl) (fun p h => h) rfl rfl rfl

/-- Settles O52: an event is settled as it ends, and one that ends without settling leaves nothing to settle. -/
theorem eventsKeepSettled : Obligations.EventsKeepSettled := by
  intro s t hs h
  obtain ⟨rest, h⟩ := step_answers h
  have hrest : ({ s with pending := rest } : State).settled := hs
  cases h with
  | absent => exact hrest
  | powerOn pin => exact State.powerOn_settled _ pin
  | settled => exact State.settle_settled _
  | plain h => exact hrest.occursPlain h

end Sys2Proof.Machine
end

section
/-! Link records: what makes one legal, and what an event that only queues and withdraws descriptors leaves of them (R113, R118, R126, R129,
R130). -/

namespace Sys2Proof.Machine

variable {s t u : State} {p q : Port} {r : PortRecord}

/-! ## A legal record -/

/-- The link record of port p is legal. -/
def PortRecord.Legal (r : PortRecord) (p : Port) : Prop :=
  (r.state ≠ .up → r.quiet) ∧ r.segmentOk ∧ r.initOk ∧ r.failuresOk ∧ r.outstanding ≤ creditLimit p ∧ r.offered ≤ creditLimit p
    ∧ r.peerCredit ≤ Config.peerCreditMax

theorem PortRecord.Legal.quiet (h : r.Legal p) (hup : r.state ≠ .up) : r.quiet := h.1 hup

theorem PortRecord.Legal.failuresOk (h : r.Legal p) : r.failuresOk := by
  obtain ⟨-, -, -, hfailures, -⟩ := h
  exact hfailures

theorem PortRecord.Legal.outstanding_le (h : r.Legal p) : r.announced + r.owed ≤ creditLimit p := by
  obtain ⟨-, -, -, -, hout, -⟩ := h
  exact hout

theorem PortRecord.Legal.offered_le (h : r.Legal p) : r.offered ≤ creditLimit p := by
  obtain ⟨-, -, -, -, -, hoffered, -⟩ := h
  exact hoffered

theorem PortRecord.Legal.peerCredit_le (h : r.Legal p) : r.peerCredit ≤ Config.peerCreditMax := by
  obtain ⟨-, -, -, -, -, -, hcredit⟩ := h
  exact hcredit

/-- Outside INIT_WAIT no INIT is open (R113, R126). -/
theorem PortRecord.Legal.no_init (h : r.Legal p) (hstate : r.state ≠ .initWait) : r.initDeadline = none ∧ r.offered = 0 := by
  obtain ⟨-, -, hinit, -⟩ := h
  rwa [PortRecord.initOk, if_neg hstate] at hinit

/-- M of a port is a multiple of 64 from 64 on; a port without a peer is read as one of 512 (R126; log entry 24). -/
theorem PortRecord.Legal.segment (h : r.Legal p) : ∃ k, r.peerSegment.getD Config.ownSegment = 64 * (k + 1) := by
  obtain ⟨-, hsegment, -⟩ := h
  unfold PortRecord.segmentOk at hsegment
  split at hsegment
  · obtain ⟨m, hm, hbounds⟩ := (Option.any_eq_true _ _).1 hsegment
    simp only [Bool.and_eq_true, beq_iff_eq, decide_eq_true_eq] at hbounds
    exact ⟨m / 64 - 1, by rw [hm, Option.getD_some]; omega⟩
  · exact ⟨7, by rw [hsegment]; rfl⟩

/-- A record that is quiet, in a state without peer and without open INIT. -/
theorem PortRecord.legal_of_resting (hup : r.state ≠ .up) (hwait : r.state ≠ .initWait) (hquiet : r.quiet) (hdeadline : r.initDeadline = none)
    (hoffered : r.offered = 0) (hfailures : r.failuresOk) : r.Legal p := by
  obtain ⟨-, -, hcredit, hannounced, howed, hsegment⟩ := id hquiet
  refine ⟨fun _ => hquiet, ?_, ?_, hfailures, ?_, ?_, ?_⟩
  · rwa [PortRecord.segmentOk, if_neg hup]
  · rw [PortRecord.initOk, if_neg hwait]; exact ⟨hdeadline, hoffered⟩
  · rw [PortRecord.outstanding, hannounced, howed]; exact Nat.zero_le _
  · rw [hoffered]; exact Nat.zero_le _
  · rw [hcredit]; exact Nat.zero_le _

/-- In UP the counters, the queue, the frames that wait and the frames sent may change within the limits. -/
theorem PortRecord.Legal.up (h : r.Legal p) (hup : r.state = .up) {credit announced owed : Nat} {queue : List Descriptor}
    {arrived wire : List (List Byte)} (hout : announced + owed ≤ creditLimit p) (hcredit : credit ≤ Config.peerCreditMax) :
    ({ r with peerCredit := credit, announced := announced, owed := owed, egress := queue, arrived := arrived, wire := wire } :
      PortRecord).Legal p := by
  obtain ⟨-, hsegment, hinit, hfailures, -, hoffered, -⟩ := h
  exact ⟨fun hn => absurd hup hn, hsegment, hinit, hfailures, hout, hoffered, hcredit⟩

/-- A queue may change in UP, and be emptied in any state. -/
theorem PortRecord.Legal.withQueue (h : r.Legal p) {queue : List Descriptor} (hq : r.state ≠ .up → queue = []) :
    ({ r with egress := queue } : PortRecord).Legal p := by
  obtain ⟨hquiet, hrest⟩ := h
  refine ⟨fun hup => ?_, hrest⟩
  obtain ⟨-, hother⟩ := hquiet hup
  exact ⟨hq hup, hother⟩

/-! ## Changes of the queues alone -/

/-- Of each port only the queue may differ, and a port that is not UP takes no descriptor. -/
structure State.QueuesOnly (s t : State) : Prop where
  port : ∀ p, ∃ ds, t.port p = { s.port p with egress := ds } ∧ ((s.port p).state ≠ .up → (s.port p).egress = [] → ds = [])

theorem State.QueuesOnly.of_eq (h : ∀ p, t.port p = s.port p) : s.QueuesOnly t := ⟨fun p => ⟨_, h p, fun _ he => he⟩⟩

theorem State.QueuesOnly.refl (s : State) : s.QueuesOnly s := .of_eq fun _ => rfl

theorem State.QueuesOnly.trans (h : s.QueuesOnly t) (k : t.QueuesOnly u) : s.QueuesOnly u := by
  refine ⟨fun p => ?_⟩
  obtain ⟨a, ha, haq⟩ := h.port p
  obtain ⟨b, hb, hbq⟩ := k.port p
  rw [ha] at hb hbq
  exact ⟨b, hb, fun hup he => hbq hup (haq hup he)⟩

theorem State.QueuesOnly.state (h : s.QueuesOnly t) (p : Port) : (t.port p).state = (s.port p).state := by
  obtain ⟨ds, hds, -⟩ := h.port p
  rw [hds]

theorem State.QueuesOnly.quiet (h : s.QueuesOnly t) (hup : (s.port p).state ≠ .up) (hq : (s.port p).quiet) : (t.port p).quiet := by
  obtain ⟨ds, hds, hempty⟩ := h.port p
  obtain ⟨hqueue, hrest⟩ := hq
  rw [hds]
  exact ⟨hempty hup hqueue, hrest⟩

theorem State.QueuesOnly.linksOk (h : s.QueuesOnly t) (hs : s.linksOk) : t.linksOk := by
  intro p
  obtain ⟨ds, hds, hempty⟩ := h.port p
  have hp : (s.port p).Legal p := hs p
  show (t.port p).Legal p
  rw [hds]
  refine hp.withQueue fun hup => ?_
  obtain ⟨hqueue, -⟩ := hp.quiet hup
  exact hempty hup hqueue

theorem State.enqueue_queuesOnly (s : State) (p : Port) (d : Descriptor) : s.QueuesOnly (s.enqueue p d) := by
  refine ⟨fun q => ⟨_, State.enqueue_port .., fun hup he => ?_⟩⟩
  have hnot : ¬(q = p ∧ s.isUp p = true) := by
    rintro ⟨rfl, h⟩
    exact hup ((s.isUp_iff q).1 h)
  rw [if_neg hnot, he]
  rfl

theorem State.withdraw_queuesOnly (s : State) (p : Port) (g : Descriptor → Bool) : s.QueuesOnly (s.withdraw p g) := by
  refine ⟨fun q => ⟨_, State.withdraw_port .., fun _ he => ?_⟩⟩
  rw [he]
  split <;> rfl

theorem State.post_queuesOnly (s : State) (a : Alert) : s.QueuesOnly (s.post a) := .of_eq fun _ => State.post_port ..

theorem State.closeAndFree_queuesOnly (s : State) (i : EntryIndex) (x : Exchange) (code : Byte) : s.QueuesOnly (s.closeAndFree i x code) :=
  (s.enqueue_queuesOnly ..).trans (.of_eq fun _ => State.freeEntry_port ..)

theorem State.withdrawUnseen_queuesOnly (s : State) (i : EntryIndex) (x : Exchange) : s.QueuesOnly (s.withdrawUnseen i x) := by
  unfold State.withdrawUnseen
  split
  · exact s.withdraw_queuesOnly ..
  · exact .refl s

theorem State.enterAborting_queuesOnly (s : State) (i : EntryIndex) (x : Exchange) (g : Routing) (o : AbortOrigin) (closed : Bool) :
    s.QueuesOnly (s.enterAborting i x g o closed) :=
  (State.QueuesOnly.of_eq fun _ => State.setExchange_port ..).trans (State.enqueue_queuesOnly ..)

theorem State.endLease_queuesOnly (s : State) (why : LeaseEnd) : s.QueuesOnly (s.endLease why) := by
  unfold State.endLease
  split
  · exact .refl s
  · refine .trans (.trans ?_ (State.withdraw_queuesOnly ..)) (State.post_queuesOnly ..)
    exact .of_eq fun _ => rfl

theorem State.formBatch_queuesOnly (s : State) : s.QueuesOnly s.formBatch := by
  by_cases h : s.forms
  · rw [State.formBatch_of_forms h]
    have hbatch : s.QueuesOnly s.withBatch := .of_eq fun _ => rfl
    exact hbatch.trans (State.enqueue_queuesOnly ..)
  · rw [State.formBatch_of_not_forms h]
    exact .refl s

/-! ## Teardown (R130, R132, R133) -/

theorem State.endRouted_queuesOnly (k : Target) (s : State) (i : EntryIndex) : s.QueuesOnly (s.endRouted k i) := by
  unfold State.endRouted
  split
  · exact .refl s
  · split
    · exact .refl s
    · split
      · exact .refl s
      · split
        · exact .of_eq fun _ => State.freeEntry_port ..
        · exact s.closeAndFree_queuesOnly ..

theorem State.endUnheard_queuesOnly (s : State) (i : EntryIndex) : s.QueuesOnly (s.endUnheard i) := by
  unfold State.endUnheard
  split
  · exact .refl s
  · split
    · exact .of_eq fun _ => State.setExchange_port ..
    · split
      · exact s.enterAborting_queuesOnly ..
      · exact (s.withdrawUnseen_queuesOnly ..).trans (.of_eq fun _ => State.freeEntry_port ..)

theorem State.foldl_queuesOnly {rule : State → EntryIndex → State} (h : ∀ (s : State) i, s.QueuesOnly (rule s i)) (l : List EntryIndex)
    (s : State) : s.QueuesOnly (l.foldl rule s) := by
  induction l generalizing s with
  | nil => exact .refl s
  | cons i l ih => exact (h s i).trans (ih _)

theorem State.endInitiatorLink_queuesOnly (s : State) : s.QueuesOnly s.endInitiatorLink := by
  have hentries := State.foldl_queuesOnly State.endUnheard_queuesOnly allEntries s
  unfold State.endInitiatorLink
  generalize allEntries.foldl State.endUnheard s = u at hentries
  exact hentries.trans (.of_eq fun _ => rfl)

theorem State.endDependants_queuesOnly (s : State) (p : Port) : s.QueuesOnly (s.endDependants p) := by
  cases p with
  | i => exact s.endInitiatorLink_queuesOnly.trans (s.endInitiatorLink.endLease_queuesOnly .linkLost)
  | t0 => exact State.foldl_queuesOnly (State.endRouted_queuesOnly .t0) allEntries s
  | t1 => exact State.foldl_queuesOnly (State.endRouted_queuesOnly .t1) allEntries s

theorem State.clearPort_port_self (s : State) (p : Port) (next : PortState) : (s.clearPort p next).port p = (s.port p).tornTo next := by
  simp [State.clearPort, PortRecord.tornTo]

theorem PortRecord.tornTo_quiet (r : PortRecord) (next : PortState) : (r.tornTo next).quiet := ⟨rfl, rfl, rfl, rfl, rfl, rfl⟩

/-- A teardown leaves its port in the state it names with nothing held for its peer. -/
theorem State.teardown_port (s : State) (p : Port) {next : PortState} (hnext : next ≠ .up) (why : LinkDetail) :
    ((s.teardown p next why).port p).state = next ∧ ((s.teardown p next why).port p).quiet := by
  have hcleared : ((s.clearPort p next).postLink p why).port p = (s.port p).tornTo next :=
    (State.post_port ..).trans (s.clearPort_port_self p next)
  have hrest := ((s.clearPort p next).postLink p why).endDependants_queuesOnly p
  have hstate : (((s.clearPort p next).postLink p why).port p).state = next := congrArg PortRecord.state hcleared
  exact ⟨(hrest.state p).trans hstate, hrest.quiet (hstate.trans_ne hnext) (hcleared ▸ PortRecord.tornTo_quiet ..)⟩

end Sys2Proof.Machine
end

section
/-! The cell pool under every update of the part: free, reserved and stored cells, and those that an event has in hand between two holders (R111,
R112, R113). -/

namespace Sys2Proof.Machine

variable {s t : State} {p : Port} {i : EntryIndex} {x y : Exchange} {T m n k : Nat}

/-! ## Where the cells are -/

/-- Free, reserved and stored cells together. -/
def State.cellTotal (s : State) : Nat := s.freeCells + s.reservedCells + s.storedCells

theorem State.cellsConserved_iff : s.cellsConserved ↔ s.cellTotal = 2048 := Iff.rfl

/-- Cells that the entries hold. -/
def State.entryCells (s : State) : Nat := (allEntries.map fun i => (s.entry i).cells).sum

/-- What a port holds: its queue, its reserved credit at nine cells each, the frames that wait. -/
theorem PortRecord.tornCells_eq (r : PortRecord) :
    r.tornCells = queueCells r.egress + 9 * (r.offered + r.announced + r.owed) + (r.arrived.map fun f => cellsFor f.length).sum := rfl

/-- The pool by its holders: what a port holds is what its teardown gives back (R130). -/
theorem State.cellTotal_eq (s : State) :
    s.cellTotal = s.freeCells + ((s.port .i).tornCells + (s.port .t0).tornCells + (s.port .t1).tornCells) + s.entryCells := by
  simp only [State.cellTotal, State.reservedCells, State.storedCells, State.entryCells, PortRecord.tornCells, allPorts, List.map_cons, List.map_nil,
    List.sum_cons, List.sum_nil]
  omega

/-- One port's cells change the total by their difference. -/
theorem State.cellTotal_of_port (hports : ∀ q, q ≠ p → t.port q = s.port q) (hentries : t.entries = s.entries) :
    t.cellTotal + (s.freeCells + (s.port p).tornCells) = s.cellTotal + (t.freeCells + (t.port p).tornCells) := by
  have hcells : t.entryCells = s.entryCells := by simp only [State.entryCells, State.entry_congr hentries]
  rw [State.cellTotal_eq, State.cellTotal_eq, hcells]
  cases p with
  | i => rw [hports .t0 nofun, hports .t1 nofun]; omega
  | t0 => rw [hports .i nofun, hports .t1 nofun]; omega
  | t1 => rw [hports .i nofun, hports .t0 nofun]; omega

/-- One entry's cells change the sum over the entries by their difference. -/
theorem State.entryCells_of_entry (hothers : ∀ j, j ≠ i → t.entry j = s.entry j) :
    t.entryCells + (s.entry i).cells = s.entryCells + (t.entry i).cells := by
  have hsum : ∀ u : State, u.entryCells = (u.entry i).cells + ∑ j ∈ Finset.univ.erase i, (u.entry j).cells := fun u => by
    rw [Finset.add_sum_erase _ (fun j => (u.entry j).cells) (Finset.mem_univ i), Fin.sum_univ_def]
    rfl
  have hrest : ∑ j ∈ Finset.univ.erase i, (t.entry j).cells = ∑ j ∈ Finset.univ.erase i, (s.entry j).cells :=
    Finset.sum_congr rfl fun j hj => by rw [hothers j (Finset.ne_of_mem_erase hj)]
  rw [hsum t, hsum s, hrest]
  omega

/-- One entry's cells change the total by their difference. -/
theorem State.cellTotal_of_entry (hothers : ∀ j, j ≠ i → t.entry j = s.entry j) (hports : ∀ q, t.port q = s.port q) :
    t.cellTotal + (s.freeCells + (s.entry i).cells) = s.cellTotal + (t.freeCells + (t.entry i).cells) := by
  have hentries := State.entryCells_of_entry hothers
  rw [State.cellTotal_eq, State.cellTotal_eq, hports, hports, hports]
  omega

theorem Entry.cells_some {e : Entry} (h : e.exchange = some x) : e.cells = x.ownCells := by simp [Entry.cells, h]

theorem Entry.cells_none {e : Entry} (h : e.exchange = none) : e.cells = 0 := by simp [Entry.cells, h]

theorem queueCells_append (a b : List Descriptor) : queueCells (a ++ b) = queueCells a + queueCells b := by simp [queueCells]

/-- The descriptors that `g` selects and the others hold the cells of the queue. -/
theorem queueCells_filter (ds : List Descriptor) (g : Descriptor → Bool) :
    queueCells (ds.filter fun d => !g d) + queueCells (ds.filter g) = queueCells ds := by
  induction ds with
  | nil => rfl
  | cons d ds ih =>
    simp only [queueCells, List.filter_cons] at ih ⊢
    cases g d <;> simp <;> omega

/-! ## The pool in the course of an event -/

/-- Legal link records, and T cells in all, of which an event has taken n from one holder and not yet given to another. -/
structure State.Pooled (s : State) (T n : Nat) : Prop where
  links : s.linksOk
  cells : s.cellTotal + n = T

/-- Between two events nothing is in hand. -/
theorem State.pooled_iff : s.Pooled 2048 0 ↔ s.linksOk ∧ s.cellsConserved :=
  ⟨fun h => ⟨h.links, State.cellsConserved_iff.2 ((Nat.add_zero _).symm.trans h.cells)⟩,
    fun ⟨hlinks, hcells⟩ => ⟨hlinks, (Nat.add_zero _).trans (State.cellsConserved_iff.1 hcells)⟩⟩

theorem State.Pooled.legal (hs : s.Pooled T n) (p : Port) : (s.port p).Legal p := hs.links p

/-- One port's record changes to a legal one. -/
theorem State.Pooled.of_port (hs : s.Pooled T n) (hports : ∀ q, q ≠ p → t.port q = s.port q) (hlegal : (t.port p).Legal p)
    (hentries : t.entries = s.entries) (hcells : t.freeCells + (t.port p).tornCells + m = s.freeCells + (s.port p).tornCells + n) :
    t.Pooled T m := by
  refine ⟨fun q => ?_, ?_⟩
  · show (t.port q).Legal q
    by_cases hq : q = p
    · exact hq ▸ hlegal
    · exact hports q hq ▸ hs.legal q
  · have htotal := State.cellTotal_of_port hports hentries
    have hcount := hs.cells
    omega

/-- One entry changes. -/
theorem State.Pooled.of_entry (hs : s.Pooled T n) (hothers : ∀ j, j ≠ i → t.entry j = s.entry j) (hports : ∀ q, t.port q = s.port q)
    (hcells : t.freeCells + (t.entry i).cells + m = s.freeCells + (s.entry i).cells + n) : t.Pooled T m := by
  refine ⟨fun q => ?_, ?_⟩
  · show (t.port q).Legal q
    exact hports q ▸ hs.legal q
  · have htotal := State.cellTotal_of_entry hothers hports
    have hcount := hs.cells
    omega

/-- Neither the ports nor the entries change. -/
theorem State.Pooled.of_free (hs : s.Pooled T n) (hports : ∀ q, t.port q = s.port q) (hentries : t.entries = s.entries)
    (hfree : t.freeCells + m = s.freeCells + n) : t.Pooled T m := by
  refine hs.of_port (p := .i) (fun q _ => hports q) (hports .i ▸ hs.legal .i) hentries ?_
  rw [hports]
  omega

theorem State.Pooled.congr (hs : s.Pooled T n) (hports : ∀ q, t.port q = s.port q) (hentries : t.entries = s.entries)
    (hfree : t.freeCells = s.freeCells) : t.Pooled T n :=
  hs.of_free hports hentries (by rw [hfree])

/-! ## Updates of the pool -/

theorem State.Pooled.setPort (hs : s.Pooled T n) {r : PortRecord} (hr : r.Legal p) (hcells : r.tornCells + m = (s.port p).tornCells + n) :
    (s.setPort p r).Pooled T m := by
  refine hs.of_port (fun q hq => State.setPort_port_ne _ _ hq) (by rwa [State.setPort_port_self]) (State.setPort_entries ..) ?_
  rw [State.setPort_freeCells, State.setPort_port_self]
  omega

theorem State.Pooled.release (hs : s.Pooled T (k + n)) : (s.release k).Pooled T n :=
  hs.of_free (fun _ => State.release_port ..) rfl (by rw [State.release_freeCells]; omega)

theorem State.Pooled.takeCells (hs : s.Pooled T n) (hk : k ≤ s.freeCells) : (s.takeCells k).Pooled T (k + n) :=
  hs.of_free (fun _ => State.takeCells_port ..) rfl (by rw [State.takeCells_freeCells]; omega)

/-- A frame that has been taken from the arrivals is discarded. -/
theorem State.Pooled.discard {f : List Byte} (hs : s.Pooled T (cellsFor f.length)) : (s.discard f).Pooled T 0 :=
  State.Pooled.release (n := 0) hs

theorem State.Pooled.post (hs : s.Pooled T n) (a : Alert) : (s.post a).Pooled T n :=
  hs.congr (fun _ => State.post_port ..) (State.post_entries ..) (State.post_freeCells ..)

/-- A descriptor takes the cells in hand into a queue; on a port that is not UP they return to free (R120, R126). -/
theorem State.Pooled.enqueue {d : Descriptor} (hs : s.Pooled T (d.cells + n)) (p : Port) : (s.enqueue p d).Pooled T n := by
  cases hup : s.isUp p
  · rw [State.enqueue_of_not_up hup]
    exact hs.release
  · rw [State.enqueue_of_up hup]
    have hstate := (s.isUp_iff p).1 hup
    refine hs.setPort ((hs.legal p).withQueue fun h => absurd hstate h) ?_
    have hd : queueCells [d] = d.cells := by simp [queueCells]
    simp only [PortRecord.tornCells_eq, queueCells_append, hd]
    omega

/-- A frame that the bridge has made holds no cell. -/
theorem State.Pooled.enqueueMade (hs : s.Pooled T n) (p : Port) {d : Descriptor} (hd : d.cells = 0) : (s.enqueue p d).Pooled T n :=
  State.Pooled.enqueue (by rwa [hd, Nat.zero_add]) p

/-- The cells in hand are the chain of the descriptor. -/
theorem State.Pooled.enqueueChain (hs : s.Pooled T k) (p : Port) {d : Descriptor} (hd : d.cells = k) : (s.enqueue p d).Pooled T 0 :=
  State.Pooled.enqueue (by rwa [hd]) p

theorem State.Pooled.enqueueAll {ds : List Descriptor} (hs : s.Pooled T (queueCells ds + n)) (p : Port) : (s.enqueueAll p ds).Pooled T n := by
  induction ds generalizing s with
  | nil => exact Nat.zero_add n ▸ hs
  | cons d ds ih =>
    refine ih (State.Pooled.enqueue ?_ p)
    have hd : queueCells (d :: ds) = d.cells + queueCells ds := by simp [queueCells]
    rwa [hd, Nat.add_assoc] at hs

theorem State.Pooled.withdraw (hs : s.Pooled T n) (p : Port) (g : Descriptor → Bool) : (s.withdraw p g).Pooled T n := by
  have hlinks := (s.withdraw_queuesOnly p g).linksOk hs.links
  refine hs.of_port (p := p) (fun q hq => ?_) (hlinks p) (State.withdraw_entries ..) ?_
  · rw [State.withdraw_port, if_neg hq]
  · have hparts := queueCells_filter (s.port p).egress g
    rw [State.withdraw_port, if_pos rfl, State.withdraw_freeCells]
    simp only [PortRecord.tornCells_eq]
    omega

theorem State.Pooled.setExchange (hs : s.Pooled T n) (hx : (s.entry i).exchange = some x) (hy : y.ownCells + m = x.ownCells + n) :
    (s.setExchange i y).Pooled T m := by
  refine hs.of_entry (fun j hj => State.setExchange_entry_ne _ _ hj) (fun _ => State.setExchange_port ..) ?_
  rw [State.setExchange_entry_self, Entry.cells_some rfl, Entry.cells_some hx, State.setExchange_freeCells]
  omega

/-- The exchange takes a new record that holds the cells it held. -/
theorem State.Pooled.setExchange_same (hs : s.Pooled T n) (hx : (s.entry i).exchange = some x) (hy : y.ownCells = x.ownCells) :
    (s.setExchange i y).Pooled T n :=
  hs.setExchange hx (by rw [hy])

theorem State.Pooled.freeEntry (hs : s.Pooled T n) (i : EntryIndex) : (s.freeEntry i).Pooled T n := by
  refine hs.of_entry (i := i) (fun j hj => State.freeEntry_entry_ne _ hj) (fun _ => State.freeEntry_port ..) ?_
  rw [State.freeEntry_freeCells, State.freeEntry_entry_self, Entry.cells_none (e := { s.entry i with exchange := none }) rfl]
  omega

/-- A FREE entry takes an exchange that holds cells in hand. -/
theorem State.Pooled.allocate (hs : s.Pooled T (x.ownCells + n)) (hfree : (s.entry i).exchange = none) : (s.allocate i x).Pooled T n := by
  refine hs.of_entry (i := i) (fun j hj => State.allocate_entry_ne _ _ hj) (fun _ => State.setEntry_port ..) ?_
  rw [State.allocate_entry_self, Entry.cells_some rfl, Entry.cells_none hfree]
  have hcells : (s.allocate i x).freeCells = s.freeCells := rfl
  omega

/-! ## Taking an arrived frame -/

/-- The frame that a consumer takes and those that stay hold the cells of the arrivals. -/
theorem firstFor_cells {c : Consumer} {l rest : List (List Byte)} {f : List Byte} (h : firstFor c p l = some (f, rest)) :
    (rest.map fun g => cellsFor g.length).sum + cellsFor f.length = (l.map fun g => cellsFor g.length).sum := by
  induction l generalizing rest with
  | nil => cases h
  | cons g l ih =>
    simp only [firstFor] at h
    split at h
    · cases h
      simp only [List.map_cons, List.sum_cons]
      omega
    · split at h
      · cases h
      · obtain ⟨⟨f', rest'⟩, hl, he⟩ := Option.map_eq_some_iff.1 h
        cases he
        have hcells := ih hl
        dsimp only at hcells ⊢
        simp only [List.map_cons, List.sum_cons]
        omega

/-- The cells of a frame that has been taken are in hand. -/
theorem State.Pooled.takeNext {c : Consumer} {f : List Byte} (hs : s.Pooled T 0) (h : s.takeNext c p = some (f, t)) :
    t.Pooled T (cellsFor f.length) := by
  obtain ⟨rest, hfirst, rfl⟩ := State.takeNext_some h
  have hlegal := hs.legal p
  have hup : (s.port p).state = .up := by
    by_contra hdown
    obtain ⟨-, hnone, -⟩ := hlegal.quiet hdown
    rw [hnone] at hfirst
    cases hfirst
  refine hs.setPort (hlegal.up hup hlegal.outstanding_le hlegal.peerCredit_le) ?_
  have hcells := firstFor_cells hfirst
  simp only [PortRecord.tornCells_eq]
  omega

theorem State.Pooled.takeKind {b : Byte} {f : List Byte} (hs : s.Pooled T 0) (h : s.takeKind p b = some (f, t)) :
    t.Pooled T (cellsFor f.length) :=
  hs.takeNext (State.takeKind_some h).2

/-! ## Grants and the batch (R116, R159) -/

theorem State.Pooled.granted (hs : s.Pooled T n) (hfree : 9 ≤ s.freeCells) (hp : s.eligible p = true) : (s.granted p).Pooled T n := by
  obtain ⟨hup, hroom⟩ := State.eligible_iff.1 hp
  have hlegal := hs.legal p
  simp only [PortRecord.outstanding] at hroom
  refine hs.of_port (p := p) (fun q hq => by rw [State.granted_port, if_neg hq]) ?_ (State.setPort_entries ..) ?_
  · rw [State.granted_port, if_pos rfl]
    exact hlegal.up hup (by omega) hlegal.peerCredit_le
  · rw [State.granted_port, if_pos rfl, State.granted_freeCells]
    simp only [PortRecord.tornCells_eq]
    omega

theorem State.Pooled.grantUpTo (hs : s.Pooled T n) (k : Nat) : (s.grantUpTo k).Pooled T n := by
  induction k generalizing s with
  | zero => exact hs
  | succ k ih =>
    unfold State.grantUpTo
    split
    · next t hone =>
      obtain ⟨hfree, p, hp, rfl⟩ := State.grantOne_cases hone
      exact ih (hs.granted hfree hp)
    · exact hs

theorem State.Pooled.settle (hs : s.Pooled T n) : s.settle.Pooled T n := by
  have hgrant : s.grant.Pooled T n := hs.grantUpTo _
  unfold State.settle
  by_cases h : s.grant.forms
  · rw [State.formBatch_of_forms h]
    exact State.Pooled.enqueueMade (hgrant.congr (t := s.grant.withBatch) (fun _ => rfl) rfl rfl) .i rfl
  · rwa [State.formBatch_of_not_forms h]

end Sys2Proof.Machine
end

section
/-! The cell pool through every operation of the part, in the order of the model's files (R111, R112, R120, R126). -/

namespace Sys2Proof.Machine

variable {s t : State} {p : Port} {i : EntryIndex} {x y : Exchange} {T n : Nat} {f : List Byte}

/-! ## How an exchange ends -/

theorem State.Pooled.closeAndFree (hs : s.Pooled T n) (i : EntryIndex) (x : Exchange) (code : Byte) : (s.closeAndFree i x code).Pooled T n :=
  (hs.enqueueMade .i rfl).freeEntry i

theorem State.Pooled.closeManagement (hs : s.Pooled T n) (i : EntryIndex) (x : Exchange) (code : Byte) (mark : Bool) :
    (s.closeManagement i x code mark).Pooled T n :=
  (hs.enqueueMade .i rfl).freeEntry i

/-- A parked STATUS takes its cells from its entry into port I's queue (R69). -/
theorem State.Pooled.deliverParked (hs : s.Pooled T 0) (hx : (s.entry i).exchange = some x) {k : ParkedStatus} (hk : x.parked = some k) :
    (s.deliverStatus i x k).Pooled T 0 := by
  have hleft : (s.setExchange i { x with parked := none }).Pooled T k.cells := hs.setExchange hx (Exchange.ownCells_of_parked hk)
  exact (hleft.enqueueChain .i rfl).freeEntry i

/-- A STATUS that arrives goes on in its own cells (R68, R82). -/
theorem State.Pooled.deliverArrived {k : ParkedStatus} (hs : s.Pooled T k.cells) (hx : (s.entry i).exchange = some x) (hk : x.parked = none) :
    (s.deliverStatus i x k).Pooled T 0 := by
  have hsame : (s.setExchange i { x with parked := none }).Pooled T k.cells := hs.setExchange_same hx (by simp [Exchange.ownCells, hk])
  exact (hsame.enqueueChain .i rfl).freeEntry i

theorem State.Pooled.withdrawUnseen (hs : s.Pooled T n) (i : EntryIndex) (x : Exchange) : (s.withdrawUnseen i x).Pooled T n := by
  unfold State.withdrawUnseen
  split
  · exact hs.withdraw ..
  · exact hs

/-- The exchange `y` that enters ABORTING holds the cells that the entry's held. -/
theorem State.Pooled.enterAborting (hs : s.Pooled T n) (hx : (s.entry i).exchange = some x) (hy : y.ownCells = x.ownCells) (g : Routing)
    (o : AbortOrigin) (closed : Bool) : (s.enterAborting i y g o closed).Pooled T n := by
  refine State.Pooled.enqueueMade ?_ _ rfl
  exact hs.setExchange_same hx hy

theorem State.Pooled.endWithStatus (hs : s.Pooled T n) (hx : (s.entry i).exchange = some x) (code : Byte) (o : AbortOrigin) :
    (s.endWithStatus i x code o).Pooled T n := by
  unfold State.endWithStatus
  split
  · next g _ => exact (hs.enterAborting hx rfl g o true).enqueueMade .i rfl
  · exact (hs.withdrawUnseen i x).closeAndFree ..

theorem State.Pooled.phaseViolation (hs : s.Pooled T n) (hx : (s.entry i).exchange = some x) (d : ViolationDetail) :
    (s.phaseViolation i x d).Pooled T n :=
  (hs.endWithStatus hx _ _).post _

theorem State.Pooled.endLease (hs : s.Pooled T n) (why : LeaseEnd) : (s.endLease why).Pooled T n := by
  unfold State.endLease
  split
  · exact hs
  · refine State.Pooled.post (State.Pooled.withdraw ?_ _ _) _
    exact hs.congr (fun _ => rfl) rfl rfl

/-! ## Runs of a chain (R105, R140) -/

/-- M is a multiple of a cell, so the runs of a chain hold the cells of the chain. -/
theorem runsOf_cells {m fuel : Nat} {data : List Byte} (hm : ∃ k, m = 64 * (k + 1)) (h : data.length ≤ fuel) :
    ((runsOf m fuel data).map fun b => cellsFor b.length).sum = cellsFor data.length := by
  obtain ⟨k, rfl⟩ := hm
  induction fuel generalizing data with
  | zero => rw [List.length_eq_zero_iff.1 (Nat.le_zero.1 h)]; rfl
  | succ fuel ih =>
    cases data with
    | nil => rfl
    | cons b bs =>
      rw [runsOf_cons, List.map_cons, List.sum_cons, ih (length_drop_run_le h), List.length_take, List.length_drop,
        max_eq_left (show 1 ≤ 64 * (k + 1) by omega)]
      simp only [cellsFor, Config.cellBytes]
      omega

theorem queueCells_runDescriptors (r : EntryRef) (off : Nat) (runs : List (List Byte)) :
    queueCells (runDescriptors r off runs) = (runs.map fun b => cellsFor b.length).sum := by
  induction runs generalizing off with
  | nil => rfl
  | cons b bs ih =>
    have hbs := ih (off + b.length)
    simp only [queueCells, runDescriptors, List.map_cons, List.sum_cons] at hbs ⊢
    rw [hbs]
    rfl

/-- The runs that port I takes hold the cells of the chain they are cut from. -/
theorem State.Pooled.runs_cells (hs : s.Pooled T n) (r : EntryRef) (data : List Byte) :
    queueCells (runDescriptors r 0 (runsOf (s.segment .i) data.length data)) = cellsFor data.length := by
  have hsegment : ∃ k, s.segment .i = 64 * (k + 1) := (hs.legal .i).segment
  rw [queueCells_runDescriptors, runsOf_cells hsegment le_rfl]

/-! ## The conclusion of a performance (R139, R140) -/

theorem cellsFor_le_of_le {a k : Nat} (h : a ≤ Config.cellBytes * k) : cellsFor a ≤ k := by
  simp only [cellsFor, Config.cellBytes] at h ⊢
  omega

/-- An answer is written into free cells alone. -/
theorem cellsFor_answerAmount_le (s : State) (x : Exchange) (answer : List Byte) : cellsFor (answerAmount s x answer) ≤ s.freeCells :=
  cellsFor_le_of_le ((Nat.min_le_right _ _).trans (Nat.min_le_right _ _))

theorem answerAmount_le (s : State) (x : Exchange) (answer : List Byte) : answerAmount s x answer ≤ answer.length := Nat.min_le_left _ _

/-- The exchange gives `b` cells back and goes on as `y`; `a` cells are taken for the answer. -/
theorem State.Pooled.written (hs : s.Pooled T n) (hx : (s.entry i).exchange = some x) {a b : Nat} (ha : a ≤ s.freeCells)
    (hb : b + y.ownCells = x.ownCells) : (((s.takeCells a).release b).setExchange i y).Pooled T (a + n) := by
  have htaken : ((s.takeCells a).setExchange i y).Pooled T (b + (a + n)) := (hs.takeCells ha).setExchange hx (by omega)
  exact htaken.release

theorem conclude_pooled {r : OpResult} (hs : r.state.Pooled T n) (hx : (r.state.entry i).exchange = some x) :
    (State.conclude i x r).Pooled T n := by
  have hbare : ({ x with storedRequest := none, bodyFrames := [] } : Exchange).ownCells ≤ x.ownCells := by
    simp only [Exchange.ownCells, List.map_nil, List.sum_nil]
    omega
  have hgiven := Nat.sub_add_cancel hbare
  have hamount := cellsFor_answerAmount_le r.state x r.answer
  simp only [State.conclude]
  split
  · next hnone =>
    rw [hnone] at hamount ⊢
    have hwritten := hs.written hx hamount hgiven
    rw [show cellsFor 0 = 0 from rfl, Nat.zero_add] at hwritten
    split
    · exact hwritten.closeManagement ..
    · exact (hwritten.closeManagement ..).congr (fun _ => rfl) rfl rfl
    · exact (hwritten.closeManagement ..).endLease _
  · refine State.Pooled.enqueueAll ?_ _
    have hlength : (r.answer.take (answerAmount r.state x r.answer)).length = answerAmount r.state x r.answer :=
      List.length_take_of_le (answerAmount_le ..)
    have hruns := hs.runs_cells (r.state.refOf i) (r.answer.take (answerAmount r.state x r.answer))
    rw [hlength] at hruns
    rw [hruns]
    exact hs.written hx hamount hgiven

/-! ## END_EXCHANGE, HOLD_DECIDE and HOLD_LIST -/

theorem State.Pooled.endByManagement (hs : s.Pooled T n) (hx : (s.entry i).exchange = some x) : (s.endByManagement i x).Pooled T n := by
  unfold State.endByManagement
  split
  · have hended : (s.setExchange i { x with origin := some .management, closed := true }).Pooled T n := hs.setExchange_same hx rfl
    exact hended.enqueueMade .i rfl
  · exact hs.endWithStatus hx ..

theorem opEndExchange_pooled (hs : s.Pooled T n) (i : EntryIndex) (params : List Byte) : (opEndExchange s i params).state.Pooled T n := by
  simp only [opEndExchange]
  split
  · split
    · exact hs
    · split
      · exact hs
      · split
        · exact hs
        · next hx =>
          split
          · exact hs
          · exact hs.endByManagement hx
  · exact hs

/-- A held request goes from its entry into its target's queue in its own cells (R97). -/
theorem State.Pooled.releaseHeld {g : Routing} (hs : s.Pooled T 0) (hx : (s.entry i).exchange = some x)
    (hf : x.storedRequest = some (.inCells f)) : (s.releaseHeld i x g f).Pooled T 0 := by
  have hissued : ((s.withoutPlace i).setExchange i (s.releasedExchange i x)).Pooled T (cellsFor f.length) := by
    refine (hs.congr (t := s.withoutPlace i) (fun _ => rfl) rfl rfl).setExchange hx ?_
    simp only [Exchange.ownCells, State.releasedExchange, hf]
    omega
  rw [State.releaseHeld_eq]
  exact hissued.enqueueChain _ rfl

theorem decideHeld_pooled (hs : s.Pooled T 0) (hx : (s.entry i).exchange = some x) (decision : Byte) :
    (decideHeld s i x decision).state.Pooled T 0 := by
  simp only [decideHeld]
  split
  · exact hs.closeAndFree ..
  · split
    · next hf =>
      split
      · exact hs.releaseHeld hx hf
      · exact hs.closeAndFree ..
    · exact hs

theorem opHoldDecide_pooled (hs : s.Pooled T 0) (params : List Byte) : (opHoldDecide s params).state.Pooled T 0 := by
  simp only [opHoldDecide]
  split
  · split
    · exact hs
    · split
      · exact hs
      · next hx =>
        split
        · exact hs
        · exact decideHeld_pooled hs hx _
  · exact hs

theorem State.Pooled.expireHold (hs : s.Pooled T n) (i : EntryIndex) (x : Exchange) : (s.expireHold i x).Pooled T n :=
  (hs.closeAndFree ..).post _

theorem State.Pooled.expireHolds (hs : s.Pooled T n) (places : List HoldPlace) : (s.expireHolds places).Pooled T n := by
  induction places generalizing s with
  | nil => exact hs
  | cons k places ih =>
    unfold State.expireHolds
    split
    · exact ih (hs.expireHold ..)
    · exact ih hs

/-! ## The other operations -/

theorem opClaim_pooled (hs : s.Pooled T n) (caller : InitiatorId) : (opClaim s caller).state.Pooled T n := by
  unfold opClaim
  split
  · split
    · exact hs.congr (fun _ => rfl) rfl rfl
    · exact hs
  · exact hs.congr (fun _ => rfl) rfl rfl

theorem State.Pooled.setStaging (hs : s.Pooled T n) (b : Bank) : (s.setStaging b).Pooled T n :=
  hs.congr (fun _ => State.setStaging_port ..) (State.setStaging_entries ..) (State.setStaging_freeCells ..)

theorem opWriteEntry_pooled (hs : s.Pooled T n) (params body : List Byte) : (opWriteEntry s params body).state.Pooled T n := by
  simp only [opWriteEntry]
  split
  · exact hs
  · split
    · exact hs
    · split
      · exact hs
      · split
        · exact hs
        · next b _ => exact (hs.setStaging b).congr (fun _ => rfl) rfl rfl

theorem opClearStaging_pooled (hs : s.Pooled T n) : (opClearStaging s).state.Pooled T n := by
  unfold opClearStaging
  split
  · exact hs
  · exact (hs.setStaging Bank.cleared).congr (fun _ => rfl) rfl rfl

theorem opCommit_pooled (hs : s.Pooled T n) : (opCommit s).state.Pooled T n := by
  have hswapped : s.swapBanks.Pooled T n := hs.congr (fun _ => rfl) rfl rfl
  simp only [opCommit]
  split
  · exact hs
  · split
    · exact hs
    · split
      · exact hswapped
      · exact hswapped

theorem opAlertAck_pooled (hs : s.Pooled T n) (params : List Byte) : (opAlertAck s params).state.Pooled T n := by
  unfold opAlertAck
  split
  · exact hs
  · split
    · refine State.Pooled.withdraw ?_ _ _
      exact hs.congr (fun _ => rfl) rfl rfl
    · exact hs

/-! ## The performance (R139) -/

theorem carryOut_pooled (hs : s.Pooled T 0) (i : EntryIndex) (x : Exchange) (params : List Byte) (op : MgmtOp) :
    (carryOut s i x params op).state.Pooled T 0 := by
  cases op with
  | holdList => exact hs.expireHolds _
  | holdDecide => exact opHoldDecide_pooled hs _
  | endExchange => exact opEndExchange_pooled hs ..
  | claim => exact opClaim_pooled hs _
  | releaseLease => exact hs.endLease _
  | readEntry => exact (opReadEntry_state s params).symm ▸ hs
  | readExchange => exact (opReadExchange_state s params).symm ▸ hs
  | writeEntry => exact opWriteEntry_pooled hs ..
  | clearStaging => exact opClearStaging_pooled hs
  | commit => exact opCommit_pooled hs
  | alertAck => exact opAlertAck_pooled hs _
  | identify | renew | linkState | warmReset => exact hs.congr (fun _ => rfl) rfl rfl

theorem operationResult_pooled (hs : s.Pooled T 0) (i : EntryIndex) (x : Exchange) : (operationResult s i x).state.Pooled T 0 := by
  unfold operationResult
  split
  · exact hs
  · split
    · exact hs
    · split
      · exact hs
      · exact carryOut_pooled hs ..

/-- The operation reaches other entries alone, so its own entry still holds the exchange that concludes. -/
theorem State.Pooled.performOperation (hs : s.Pooled T 0) (hx : (s.entry i).exchange = some x) (hstate : x.state = .mgmtAnswer)
    (hdeadline : x.deadline = none) : (s.performOperation i x).Pooled T 0 := by
  obtain ⟨-, hown⟩ := operationResult_beside hx hstate hdeadline
  exact conclude_pooled (operationResult_pooled hs i x) (by rw [hown, hx])

/-! ## The verdict -/

theorem State.Pooled.refuse (hs : s.Pooled T (cellsFor f.length)) (hf : 4 ≤ f.length) (code : Byte) : (s.refuse f code).Pooled T 0 := by
  have hfirst : cellsFor f.length = cellsFor f.length - 1 + 1 := by
    simp only [cellsFor, Config.cellBytes]
    omega
  rw [hfirst] at hs
  exact hs.release.enqueueChain .i rfl

theorem State.Pooled.postDenial (hs : s.Pooled T n) (f : List Byte) (code : Byte) (d : Option (ViewIndex × View)) :
    (s.postDenial f code d).Pooled T n := by
  obtain h | ⟨a, h⟩ := s.postDenial_eq f code d
  · rw [h]; exact hs
  · rw [h]; exact hs.post a

theorem Exchange.ownCells_of_inCells {x : Exchange} (hf : x.storedRequest = some (.inCells f)) (hbody : x.bodyFrames = [])
    (hparked : x.parked = none) (hsnapshot : x.snapshot = none) : x.ownCells = cellsFor f.length := by
  simp [Exchange.ownCells, hf, hbody, hparked, hsnapshot]

/-- The request stays in its cells, attached to the entry that its verdict allocates (R11). -/
theorem State.Pooled.allocate_holding (hs : s.Pooled T (cellsFor f.length)) (hfree : (s.entry i).exchange = none)
    (hx : x.ownCells = cellsFor f.length) : (s.allocate i x).Pooled T 0 :=
  State.Pooled.allocate (by rwa [hx]) hfree

theorem State.Pooled.admitManagement (hs : s.Pooled T (cellsFor f.length)) (hfree : (s.entry i).exchange = none) :
    (s.admitManagement i f).Pooled T 0 := by
  have hown : ((s.allocate i (managementExchange f)).entry i).exchange = some (managementExchange f) :=
    congrArg Entry.exchange (State.allocate_entry_self ..)
  have hopened : (s.allocate i (managementExchange f)).Pooled T 0 :=
    hs.allocate_holding hfree (Exchange.ownCells_of_inCells rfl rfl rfl rfl)
  simp only [State.admitManagement]
  split
  · split
    · have hawaiting : (s.allocate i (s.awaitingBody (managementExchange f))).Pooled T 0 :=
        hs.allocate_holding hfree (Exchange.ownCells_of_inCells rfl rfl rfl rfl)
      exact hawaiting.enqueueMade .i rfl
    · exact conclude_pooled (r := refuseOp _ codeBadBody) hopened hown
  · exact hopened.performOperation hown rfl rfl

theorem State.Pooled.admitHeld (hs : s.Pooled T (cellsFor f.length)) (hfree : (s.entry i).exchange = none) (k : ViewIndex) (v : View) :
    (s.admitHeld i k v f).Pooled T 0 := by
  have hheld : (s.allocate i (s.holdingExchange k v f)).Pooled T 0 :=
    hs.allocate_holding hfree (Exchange.ownCells_of_inCells rfl rfl rfl rfl)
  rw [State.admitHeld_eq s k v f rfl]
  refine State.Pooled.post ?_ _
  exact hheld.congr (fun _ => rfl) rfl rfl

/-- The snapshot takes free cells, and the request's return (R104). -/
theorem State.Pooled.admitReply (hs : s.Pooled T (cellsFor f.length)) (hfree : (s.entry i).exchange = none) (k : ViewIndex) (r : ReplyIndex)
    {record : ReplyRecord} (hcells : snapshotCells (readRequest f) record ≤ s.freeCells) : (s.admitReply i k r record f).Pooled T 0 := by
  let snapshot : Snapshot := { code := record.code, data := record.data.take (snapshotLength (readRequest f) record), started := false }
  let opening : Exchange := { openingExchange (readRequest f) .replying .queryReply with
    view := some k, replyRecord := some r, snapshot := some snapshot }
  have hlength : snapshotLength (readRequest f) record ≤ record.data.length := by
    unfold snapshotLength
    split
    · exact Nat.min_le_left ..
    · exact Nat.zero_le _
  have hown : opening.ownCells = snapshotCells (readRequest f) record := by
    simp [opening, snapshot, openingExchange, Exchange.ownCells, snapshotCells, List.length_take_of_le hlength]
  have htaken : ((s.takeCells (snapshotCells (readRequest f) record)).discard f).Pooled T (opening.ownCells + 0) := by
    refine State.Pooled.release ?_
    rw [hown, Nat.add_comm]
    exact hs.takeCells hcells
  have hopened := htaken.allocate (i := i) hfree
  exact hopened.congr (fun _ => rfl) rfl rfl

theorem State.Pooled.admitIssued (hs : s.Pooled T (cellsFor f.length)) (hfree : (s.entry i).exchange = none) (k : ViewIndex) (v : View) :
    (s.admitIssued i k v f).Pooled T 0 := by
  have hopened : ∀ z : Exchange, z.ownCells = 0 → (s.allocate i z).Pooled T (cellsFor f.length) := fun z hz =>
    State.Pooled.allocate (by rwa [hz, Nat.zero_add]) hfree
  exact (hopened _ (by rfl)).enqueueChain _ rfl

theorem State.Pooled.takeRequest (hs : s.Pooled T (cellsFor f.length)) : (s.takeRequest f).Pooled T 0 := by
  unfold State.takeRequest
  split
  · exact hs.discard.post _
  · next hshort =>
    have hlong : 4 ≤ f.length := Nat.le_of_not_lt (by simpa [isShort] using hshort)
    have hfree : ∀ i, (s.judge f).admitsTo = some i → (s.entry i).exchange = none := fun i h => (State.judge_admitsTo h).1
    unfold State.giveVerdict
    split
    · exact (hs.refuse hlong _).postDenial ..
    · next i hv => exact hs.admitManagement (hfree i (by rw [hv]; rfl))
    · next i k v hv => exact hs.admitHeld (hfree i (by rw [hv]; rfl)) k v
    · next i k r record hv => exact hs.admitReply (hfree i (by rw [hv]; rfl)) k r (State.judge_snapshotCells hv)
    · next i k v hv => exact hs.admitIssued (hfree i (by rw [hv]; rfl)) k v

end Sys2Proof.Machine
end

section
/-! The cell pool through the frames of the data phase, the ABORTs, egress, the replies and the links, in the order of the model's files (R111 to
R115, R117, R118, R120, R126 to R130). -/

namespace Sys2Proof.Machine

variable {s t : State} {p : Port} {i : EntryIndex} {x y : Exchange} {T n : Nat} {f : List Byte}

/-! ## Frames of a target -/

/-- Taking a target's frame keeps the pool when the rule of its kind does on the entry it matches. -/
theorem State.Pooled.takeTargetFrame {rule : EntryIndex → Exchange → Routing → State} (hs : s.Pooled T (cellsFor f.length)) (k : Target)
    (hrule : ∀ i x g, (s.entry i).exchange = some x → (rule i x g).Pooled T 0) : (s.takeTargetFrame k f rule).Pooled T 0 := by
  unfold State.takeTargetFrame
  split
  · exact hs.discard.post _
  · split
    · split
      · exact hs.discard
      · exact hs.discard.post _
    · next i x g hm =>
      obtain ⟨-, -, -, hx, -⟩ := State.matchTarget_eq_matched.1 hm
      exact hrule i x g hx

/-- The exchange goes on with the cells it holds, and the frame in its own. -/
theorem State.Pooled.forward (hs : s.Pooled T (cellsFor f.length)) (hx : (s.entry i).exchange = some x) (hy : y.ownCells = x.ownCells)
    (p : Port) {d : Descriptor} (hd : d.cells = cellsFor f.length) : ((s.setExchange i y).enqueue p d).Pooled T 0 :=
  (hs.setExchange_same hx hy).enqueueChain p hd

theorem State.Pooled.proceedRule (hs : s.Pooled T (cellsFor f.length)) (hx : (s.entry i).exchange = some x) (k : Target) (g : Routing) :
    (s.proceedRule k f i x g).Pooled T 0 := by
  unfold State.proceedRule
  split
  · exact hs.discard.post _
  · split
    · exact hs.discard
    · split
      · exact hs.discard.phaseViolation hx _
      · exact hs.forward hx (by rfl) .i rfl

theorem State.Pooled.targetDataRule (hs : s.Pooled T (cellsFor f.length)) (hx : (s.entry i).exchange = some x) (k : Target) (g : Routing) :
    (s.targetDataRule k f i x g).Pooled T 0 := by
  unfold State.targetDataRule
  split
  · exact hs.discard.post _
  · split
    · exact hs.discard
    · split
      · exact hs.discard.phaseViolation hx _
      · exact hs.forward hx (by rfl) .i rfl

/-- A STATUS goes on at once, or its entry takes its cells (R68, R69). -/
theorem State.Pooled.acceptStatus {k : ParkedStatus} (hs : s.Pooled T k.cells) (hx : (s.entry i).exchange = some x) (hk : x.parked = none) :
    (s.acceptStatus i x k).Pooled T 0 := by
  unfold State.acceptStatus
  split
  · exact hs.deliverArrived hx hk
  · refine hs.setExchange hx ?_
    simp only [Exchange.ownCells, hk]
    omega

theorem State.Pooled.statusRule (hs : s.Pooled T (cellsFor f.length)) (hx : (s.entry i).exchange = some x) (k : Target) (g : Routing) :
    (s.statusRule k f i x g).Pooled T 0 := by
  have hstatus : s.Pooled T (readStatus f).cells := hs
  unfold State.statusRule
  split
  · exact hs.discard.post _
  · next hparked =>
    have hk : x.parked = none := Option.not_isSome_iff_eq_none.1 hparked
    split
    · split
      · unfold State.endAbortByStatus
        split
        · exact hs.discard.freeEntry i
        · exact hstatus.deliverArrived hx hk
      · exact hs.discard
    · split
      · exact hstatus.acceptStatus hx hk
      · exact hs.discard.phaseViolation hx _

theorem State.Pooled.abortDoneRule (hs : s.Pooled T (cellsFor f.length)) (k : Target) (i : EntryIndex) (x : Exchange) (g : Routing) :
    (s.abortDoneRule k f i x g).Pooled T 0 := by
  unfold State.abortDoneRule
  split
  · exact hs.discard
  · split
    · split
      · unfold State.endAbortByDone
        split
        · exact hs.discard.freeEntry i
        · exact (hs.enqueueChain .i rfl).freeEntry i
      · exact hs.discard
    · exact hs.discard.post _

/-! ## DATA and ABORT from an initiator -/

theorem Exchange.withBodyFrame_ownCells (x : Exchange) (f : List Byte) : (x.withBodyFrame f).ownCells = x.ownCells + cellsFor f.length := by
  simp only [Exchange.withBodyFrame]
  split <;> simp only [Exchange.ownCells, List.map_append, List.map_cons, List.map_nil, List.sum_append, List.sum_cons, List.sum_nil] <;> omega

/-- The entry takes a body frame's cells, and with the last frame the operation is performed (R137). -/
theorem State.Pooled.acceptBody (hs : s.Pooled T (cellsFor f.length)) (hx : (s.entry i).exchange = some x) :
    (s.acceptBody i x f).Pooled T 0 := by
  have htaken : (s.setExchange i (x.withBodyFrame f)).Pooled T 0 := hs.setExchange hx (x.withBodyFrame_ownCells f)
  simp only [State.acceptBody]
  split
  · next hlast =>
    have hcomplete : x.withBodyFrame f
        = { x with state := .mgmtAnswer, deadline := none, moved := x.moved + dataLength f, bodyFrames := x.bodyFrames ++ [f] } :=
      if_pos hlast
    refine htaken.performOperation (congrArg Entry.exchange (State.setExchange_entry_self ..)) ?_ ?_
    · rw [hcomplete]
    · rw [hcomplete]
  · exact htaken

theorem State.Pooled.movingRule (hs : s.Pooled T (cellsFor f.length)) (hx : (s.entry i).exchange = some x) (g : Routing) :
    (s.movingRule i x g f).Pooled T 0 := by
  unfold State.movingRule
  split
  · exact hs.discard.phaseViolation hx _
  · exact hs.forward hx (by rfl) _ rfl

theorem State.Pooled.initiatorDataRule (hs : s.Pooled T (cellsFor f.length)) (hx : (s.entry i).exchange = some x) :
    (s.initiatorDataRule i x f).Pooled T 0 := by
  have hviolation : ∀ d, ((s.discard f).phaseViolation i x d).Pooled T 0 := hs.discard.phaseViolation hx
  have hmoving : (match x.routing with
      | some g => s.movingRule i x g f
      | none => (s.discard f).phaseViolation i x (unwantedViolation f)).Pooled T 0 := by
    split
    · exact hs.movingRule hx _
    · exact hviolation _
  unfold State.initiatorDataRule
  split
  · exact hviolation _
  · split
    · exact hs.discard.post _
    · unfold State.bodyRule
      split
      · exact hviolation _
      · exact hs.acceptBody hx
    · exact hs.discard
    · exact hviolation _
    · exact hviolation _
    · exact hmoving
    · exact hmoving

theorem State.Pooled.takeInitiatorData (hs : s.Pooled T (cellsFor f.length)) : (s.takeInitiatorData f).Pooled T 0 := by
  unfold State.takeInitiatorData
  split
  · exact hs.discard.post _
  · split
    · exact hs.discard.post _
    · next hm => exact hs.initiatorDataRule (State.matchInitiator_exchange hm)

/-- The ABORT's own cells hold the ABORT_DONE that answers it (R85, R86). -/
theorem State.Pooled.abortMatched (hs : s.Pooled T (cellsFor f.length)) (hx : (s.entry i).exchange = some x) :
    (s.abortMatched i x f).Pooled T 0 := by
  unfold State.abortMatched
  split
  · exact hs.enqueueChain .i rfl
  · split
    · exact hs.discard.enterAborting hx rfl ..
    · exact ((hs.withdrawUnseen i x).enqueueChain .i rfl).freeEntry i

theorem State.Pooled.takeAbort (hs : s.Pooled T (cellsFor f.length)) : (s.takeAbort f).Pooled T 0 := by
  unfold State.takeAbort
  split
  · exact hs.discard.post _
  · split
    · exact hs.discard.post _
    · split
      · exact hs.enqueueChain .i rfl
      · split
        · exact hs.enqueueChain .i rfl
        · next hx => exact hs.abortMatched hx

/-! ## Egress -/

theorem State.Pooled.markSent (hs : s.Pooled T n) (r : EntryRef) : (s.markSent r).Pooled T n := by
  unfold State.markSent
  split
  · exact hs
  · next x hx =>
    split
    · exact hs
    · split
      · next hqueued =>
        refine hs.setExchange_same (State.exchangeAt_exchange hx) ?_
        simp [Exchange.ownCells, hqueued]
      · exact hs

theorem State.Pooled.dataLeft (hs : s.Pooled T 0) (hx : (s.entry i).exchange = some x) : (s.dataLeft i x).Pooled T 0 := by
  unfold State.dataLeft
  split
  · next hk => exact hs.deliverParked hx hk
  · exact hs.closeAndFree ..
  · exact hs.closeManagement ..
  · exact hs

theorem State.Pooled.dataGone (hs : s.Pooled T 0) (hx : (s.entry i).exchange = some x) (hy : y.ownCells = x.ownCells) :
    (s.dataGone i y).Pooled T 0 := by
  have hfewer : (s.setExchange i { y with dataWaiting := y.dataWaiting - 1 }).Pooled T 0 := hs.setExchange_same hx hy
  simp only [State.dataGone]
  split
  · exact hfewer.dataLeft (congrArg Entry.exchange (State.setExchange_entry_self ..))
  · exact hfewer

theorem Exchange.withRun_ownCells (x : Exchange) (payload : List Byte) : (x.withRun payload).ownCells = x.ownCells := by
  unfold Exchange.withRun
  split <;> rfl

theorem State.Pooled.dataSent (hs : s.Pooled T 0) (d : Descriptor) : (s.dataSent d).Pooled T 0 := by
  unfold State.dataSent
  split
  · exact hs
  · split
    · exact hs
    · next x hx =>
      split
      · exact hs.dataGone (State.exchangeAt_exchange hx) (x.withRun_ownCells _)
      · exact hs.dataGone (State.exchangeAt_exchange hx) rfl

theorem State.Pooled.dataDropped (hs : s.Pooled T 0) (d : Descriptor) : (s.dataDropped d).Pooled T 0 := by
  unfold State.dataDropped
  split
  · exact hs
  · next r _ =>
    split
    · exact hs
    · next x hx =>
      have hfewer : (s.setExchange r.index { x with dataWaiting := x.dataWaiting - 1 }).Pooled T 0 :=
        hs.setExchange_same (State.exchangeAt_exchange hx) rfl
      dsimp only
      split
      · next k hk =>
        split
        · exact hfewer.deliverParked (congrArg Entry.exchange (State.setExchange_entry_self ..)) hk
        · exact hfewer
      · exact hfewer

/-! ## Warm reset (R147, R148) -/

theorem queueCells_map_unrecorded (ds : List Descriptor) : queueCells (ds.map fun d => { d with entry := none }) = queueCells ds := by
  simp only [queueCells, List.map_map]
  rfl

theorem State.Pooled.purgeForReset (hs : s.Pooled T n) (p : Port) : (s.purgeForReset p).Pooled T n := by
  have hlegal := hs.legal p
  have hparts := queueCells_filter (s.port p).egress s.spares
  refine State.Pooled.release (State.Pooled.setPort hs (hlegal.withQueue fun hup => ?_) ?_)
  · obtain ⟨hempty, -⟩ := hlegal.quiet hup
    rw [hempty]
    rfl
  · simp only [PortRecord.tornCells_eq, queueCells_map_unrecorded]
    omega

theorem State.Pooled.resetEntry (hs : s.Pooled T n) (i : EntryIndex) : (s.resetEntry i).Pooled T n := by
  unfold State.resetEntry
  split
  · exact hs
  · split
    · split
      · exact hs.freeEntry i
      · exact hs.closeAndFree ..
    · split
      · exact ((hs.enqueueMade .i rfl).enqueueMade _ rfl).freeEntry i
      · exact hs.closeAndFree ..

theorem State.Pooled.foldl {rule : State → EntryIndex → State} (hrule : ∀ {s : State} i, s.Pooled T n → (rule s i).Pooled T n)
    (hs : s.Pooled T n) (l : List EntryIndex) : (l.foldl rule s).Pooled T n := by
  induction l generalizing s with
  | nil => exact hs
  | cons i l ih => exact ih (hrule i hs)

theorem PortRecord.Legal.afterWarmReset {r : PortRecord} (h : r.Legal p) : r.afterWarmReset.Legal p := by
  unfold PortRecord.afterWarmReset
  split
  · next hfailed =>
    have hup : r.state ≠ .up := by rw [hfailed]; nofun
    obtain ⟨hdeadline, hoffered⟩ := h.no_init (by rw [hfailed]; nofun)
    exact PortRecord.legal_of_resting nofun nofun (h.quiet hup) hdeadline hoffered
      ⟨Nat.zero_le _, fun _ => Nat.zero_lt_succ _⟩
  · exact h

theorem PortRecord.afterWarmReset_tornCells (r : PortRecord) : r.afterWarmReset.tornCells = r.tornCells := by
  unfold PortRecord.afterWarmReset
  split <;> rfl

theorem State.Pooled.resetBlocks (hs : s.Pooled T n) : s.resetBlocks.Pooled T n := by
  refine ⟨fun q => ?_, ?_⟩
  · show (s.resetBlocks.port q).Legal q
    rw [State.resetBlocks_port]
    exact (hs.legal q).afterWarmReset
  · have htotal : s.resetBlocks.cellTotal = s.cellTotal := by
      simp only [State.cellTotal_eq, State.resetBlocks_port, PortRecord.afterWarmReset_tornCells]
      rfl
    rw [htotal]
    exact hs.cells

theorem State.Pooled.takeWarmReset (hs : s.Pooled T n) : s.takeWarmReset.Pooled T n := by
  have hpurged : s.purgeAll.Pooled T n := ((hs.purgeForReset .i).purgeForReset .t0).purgeForReset .t1
  have htable : s.resetTable.Pooled T n := hpurged.foldl (fun i h => h.resetEntry i) allEntries
  rw [State.takeWarmReset_eq]
  exact htable.resetBlocks

/-! ## Transmission and discard (R74, R75, R122, R123) -/

theorem State.Pooled.completed (hs : s.Pooled T 0) (p : Port) (d : Descriptor) : (s.completed p d).Pooled T 0 := by
  have hdata : (if p = .i ∧ d.isData = true then s.dataSent d else s).Pooled T 0 := by
    split
    · exact hs.dataSent d
    · exact hs
  have hsent : ∀ u : State, u.Pooled T 0 → (match d.entry with
      | some r => if d.isRequest then u.markSent r else u
      | none => u).Pooled T 0 := by
    intro u hu
    split
    · split
      · exact hu.markSent _
      · exact hu
    · exact hu
  have halerted : ∀ u : State, u.Pooled T 0 → (if d.isAlert then u.alertSent else u).Pooled T 0 := by
    intro u hu
    split
    · exact hu.congr (fun _ => rfl) rfl rfl
    · exact hu
  simp only [State.completed]
  split
  · exact (halerted _ (hsent _ hdata)).takeWarmReset
  · exact halerted _ (hsent _ hdata)

/-- One frame goes out for one credit, and the queue that stays holds the cells it held but those in hand. -/
theorem State.Pooled.afterSending (hs : s.Pooled T 0) (hup : (s.port p).state = .up) (g : Frame) {queue : List Descriptor}
    (hcells : queueCells queue + n = queueCells (s.port p).egress) : (s.afterSending p g queue).Pooled T n := by
  have hlegal := hs.legal p
  refine hs.setPort (hlegal.up hup hlegal.outstanding_le ((Nat.sub_le ..).trans hlegal.peerCredit_le)) ?_
  simp only [PortRecord.tornCells_eq]
  omega

theorem queueCells_cons (d : Descriptor) (ds : List Descriptor) : queueCells (d :: ds) = d.cells + queueCells ds := by simp [queueCells]

theorem State.Pooled.sendHead {d : Descriptor} {rest : List Descriptor} (hs : s.Pooled T 0) (hup : (s.port p).state = .up)
    (hq : (s.port p).egress = d :: rest) : (s.sendHead p d rest).Pooled T 0 := by
  cases hprogress : d.progressAfter (s.segment p) with
  | some k =>
    rw [State.sendHead_of_piece rest hprogress]
    refine hs.afterSending hup _ ?_
    rw [hq, queueCells_cons, queueCells_cons]
    rfl
  | none =>
    have hsent : (s.afterSending p (s.frameToSend d (s.segment p)) rest).Pooled T (d.cells + 0) := by
      refine hs.afterSending hup _ ?_
      rw [hq, queueCells_cons]
      omega
    rw [State.sendHead_of_last rest hprogress]
    exact hsent.release.completed p d

theorem State.Pooled.dropHead {d : Descriptor} {rest : List Descriptor} (hs : s.Pooled T 0) (hup : (s.port p).state = .up)
    (hq : (s.port p).egress = d :: rest) : (s.dropHead p d rest).Pooled T 0 := by
  have hleft : (s.setPort p { s.port p with egress := rest }).Pooled T (d.cells + 0) := by
    refine hs.setPort ((hs.legal p).withQueue fun hdown => absurd hup hdown) ?_
    simp only [PortRecord.tornCells_eq, hq, queueCells_cons]
    omega
  simp only [State.dropHead]
  split
  · exact hleft.release.dataDropped d
  · exact hleft.release

/-! ## Reply service (R105) -/

/-- The snapshot's data cells go from the entry to the runs that are queued. -/
theorem State.Pooled.startService {r : EntryRef} {k : Snapshot} (hs : s.Pooled T 0) (hx : (s.entry r.index).exchange = some x)
    (hk : x.snapshot = some k) (hwaits : k.started = false) : (s.startService r x k).Pooled T 0 := by
  by_cases hempty : k.data = []
  · rw [State.startService_of_empty hempty]
    exact hs.closeAndFree ..
  · rw [State.startService_of_data rfl hempty]
    refine State.Pooled.enqueueAll ?_ _
    rw [hs.runs_cells]
    refine hs.setExchange hx ?_
    simp [Exchange.inService, Exchange.ownCells, hk, hwaits]
    omega

theorem State.Pooled.serve (hs : s.Pooled T 0) (r : EntryRef) : (s.serve r).Pooled T 0 := by
  obtain ⟨hidle, -⟩ | ⟨x, k, hx, -, hk, hwaits, hserve⟩ := s.serve_cases r
  · rw [hidle]; exact hs
  · rw [hserve]; exact hs.startService (State.exchangeAt_exchange hx) hk hwaits

/-! ## Teardown (R130, R132, R133) -/

theorem State.Pooled.endRouted (hs : s.Pooled T n) (k : Target) (i : EntryIndex) : (s.endRouted k i).Pooled T n := by
  unfold State.endRouted
  split
  · exact hs
  · split
    · exact hs
    · split
      · exact hs
      · split
        · exact hs.freeEntry i
        · exact hs.closeAndFree ..

theorem State.Pooled.endUnheard (hs : s.Pooled T n) (i : EntryIndex) : (s.endUnheard i).Pooled T n := by
  unfold State.endUnheard
  split
  · exact hs
  · next hx =>
    split
    · exact hs.setExchange_same hx rfl
    · split
      · exact hs.enterAborting hx (by rfl) ..
      · exact (hs.withdrawUnseen ..).freeEntry i

theorem State.Pooled.endInitiatorLink (hs : s.Pooled T n) : s.endInitiatorLink.Pooled T n := by
  have hentries := hs.foldl (fun i h => h.endUnheard i) allEntries
  unfold State.endInitiatorLink
  generalize allEntries.foldl State.endUnheard s = u at hentries
  exact hentries.congr (fun _ => rfl) rfl rfl

/-- What the port held returns to free (R130). -/
theorem State.Pooled.clearPort (hs : s.Pooled T 0) (p : Port) {next : PortState} (hup : next ≠ .up) (hwait : next ≠ .initWait)
    (hfailures : (s.port p).initFailures < Config.initFailureLimit) : (s.clearPort p next).Pooled T 0 := by
  have hlegal : ((s.port p).tornTo next).Legal p :=
    PortRecord.legal_of_resting hup hwait (PortRecord.tornTo_quiet ..) rfl rfl ⟨hfailures.le, fun _ => hfailures⟩
  have hcleared : (s.setPort p ((s.port p).tornTo next)).Pooled T ((s.port p).tornCells + 0) := by
    refine hs.setPort hlegal ?_
    have hnothing : ((s.port p).tornTo next).tornCells = 0 := rfl
    omega
  exact hcleared.release

/-- A teardown of a port in UP, whose INIT failures are fewer than 8 (R129). -/
theorem State.Pooled.teardown (hs : s.Pooled T 0) (hstate : (s.port p).state = .up) {next : PortState} (hup : next ≠ .up)
    (hwait : next ≠ .initWait) (why : LinkDetail) : (s.teardown p next why).Pooled T 0 := by
  obtain ⟨-, hfailures⟩ := (hs.legal p).failuresOk
  have hcleared : ((s.clearPort p next).postLink p why).Pooled T 0 :=
    (hs.clearPort p hup hwait (hfailures (by rw [hstate]; nofun))).post _
  unfold State.teardown State.endDependants
  split
  · exact hcleared.endInitiatorLink.endLease _
  · exact hcleared.foldl (fun i h => h.endRouted .t0 i) allEntries
  · exact hcleared.foldl (fun i h => h.endRouted .t1 i) allEntries

/-! ## Bring-up (R127 to R129) -/

theorem State.Pooled.signalPresent (hs : s.Pooled T 0) (h : (s.port p).state = .down) :
    (s.setPort p { s.port p with state := .training }).Pooled T 0 := by
  have hlegal := hs.legal p
  obtain ⟨hdeadline, hoffered⟩ := hlegal.no_init (by rw [h]; nofun)
  obtain ⟨hbound, hfailures⟩ := hlegal.failuresOk
  refine hs.setPort (PortRecord.legal_of_resting nofun nofun (hlegal.quiet (by rw [h]; nofun)) hdeadline hoffered
    ⟨hbound, fun _ => hfailures (by rw [h]; nofun)⟩) rfl

theorem State.launchInit_port_state (s : State) (p : Port) : ((s.launchInit p).port p).state = .initWait := by
  rw [State.launchInit, State.takeCells_port, State.setPort_port_self]

/-- The offered credit is reserved from free cells (R113, R127). -/
theorem State.Pooled.launchInit (hs : s.Pooled T 0) (h : (s.port p).state = .training) : (s.launchInit p).Pooled T 0 := by
  have hlegal := hs.legal p
  obtain ⟨-, hoffered⟩ := hlegal.no_init (by rw [h]; nofun)
  obtain ⟨hbound, hfailures⟩ := hlegal.failuresOk
  have hquiet := hlegal.quiet (by rw [h]; nofun)
  have hoffer : s.offer p ≤ creditLimit p := Nat.min_le_left ..
  have hfree : 9 * s.offer p ≤ s.freeCells :=
    (Nat.mul_le_mul_left 9 (Nat.min_le_right ..)).trans (Nat.mul_div_le s.freeCells 9)
  obtain ⟨-, -, hcredit, hannounced, howed, hsegment⟩ := id hquiet
  refine hs.of_port (p := p) (fun q hq => ?_) ?_ ?_ ?_
  · rw [State.launchInit, State.takeCells_port, State.setPort_port_ne _ _ hq]
  · rw [State.launchInit, State.takeCells_port, State.setPort_port_self]
    refine ⟨fun _ => hquiet, ?_, ?_, ⟨hbound, fun _ => hfailures (by rw [h]; nofun)⟩, hlegal.outstanding_le, hoffer, hlegal.peerCredit_le⟩
    · rw [PortRecord.segmentOk, if_neg nofun]; exact hsegment
    · rw [PortRecord.initOk, if_pos rfl]; rfl
  · rw [State.launchInit, State.takeCells_entries, State.setPort_entries]
  · simp only [State.launchInit, State.takeCells_port, State.setPort_port_self, State.takeCells_freeCells, State.setPort_freeCells,
      PortRecord.tornCells_eq, hoffered, Config.creditCells]
    omega

/-- The cells of the offered credit return to free, and the port is at rest (R128, R129). -/
theorem State.Pooled.leaveInitWait (hs : s.Pooled T 0) (hstate : (s.port p).state ≠ .up) {next : PortState} (hup : next ≠ .up)
    (hwait : next ≠ .initWait) {failures : Nat} (hbound : failures ≤ Config.initFailureLimit)
    (hfailures : next ≠ .failed → failures < Config.initFailureLimit) : (s.leaveInitWait p next failures).Pooled T 0 := by
  have hquiet := (hs.legal p).quiet hstate
  refine State.Pooled.release (State.Pooled.setPort hs (PortRecord.legal_of_resting hup hwait hquiet rfl rfl ⟨hbound, hfailures⟩) ?_)
  simp only [PortRecord.tornCells_eq, Config.creditCells]
  omega

/-- An INIT without fault declares a segment of 64 to 512 bytes in steps of 64 (R128). -/
theorem initFault_segment {own : Byte} (h : initFault own f = none) : 1 ≤ initSegmentUnits f ∧ initSegmentUnits f ≤ 8 := by
  unfold initFault at h
  split at h
  · cases h
  · split at h
    · cases h
    · split at h
      · cases h
      · omega

theorem State.Pooled.enterUp (hs : s.Pooled T 0) (h : (s.port p).state = .initWait) (hf : 1 ≤ initSegmentUnits f ∧ initSegmentUnits f ≤ 8) :
    (s.enterUp p f).Pooled T 0 := by
  have hlegal := hs.legal p
  obtain ⟨-, -, -, hannounced, howed, -⟩ := hlegal.quiet (by rw [h]; nofun)
  have hoffered := hlegal.offered_le
  refine State.Pooled.post (State.Pooled.setPort hs ?_ ?_) _
  · refine ⟨fun hup => absurd rfl hup, ?_, ?_, ⟨Nat.zero_le _, fun _ => Nat.zero_lt_succ _⟩, ?_, Nat.zero_le _, ?_⟩
    · rw [PortRecord.segmentOk, if_pos rfl]
      simp only [Option.any_some, Bool.and_eq_true, beq_iff_eq, decide_eq_true_eq]
      omega
    · rw [PortRecord.initOk, if_neg nofun]; exact ⟨rfl, rfl⟩
    · simp only [PortRecord.outstanding, hannounced, howed]
      omega
    · simp only [initCredit, Config.peerCreditMax]
      omega
  · simp only [PortRecord.tornCells_eq]
    omega

theorem State.Pooled.judgeInit (hs : s.Pooled T 0) (h : (s.port p).state = .initWait) (f : List Byte) : (s.judgeInit p f).Pooled T 0 := by
  obtain ⟨hbound, hfailures⟩ := (hs.legal p).failuresOk
  unfold State.judgeInit
  split
  · next hf => exact hs.enterUp h (initFault_segment hf)
  · exact (hs.leaveInitWait (next := .failed) (by rw [h]; nofun) nofun nofun hbound fun hn => absurd rfl hn).post _

/-- A peer restart in UP: a teardown, a second bring-up and the judgement (R130). -/
theorem State.Pooled.peerRestart (hs : s.Pooled T 0) (h : (s.port p).state = .up) (f : List Byte) :
    (((s.teardown p .training .peerRestart).launchInit p).judgeInit p f).Pooled T 0 := by
  obtain ⟨hstate, -⟩ := s.teardown_port p (next := .training) nofun .peerRestart
  have htorn : (s.teardown p .training .peerRestart).Pooled T 0 := hs.teardown (next := .training) h nofun nofun _
  exact (htorn.launchInit hstate).judgeInit (State.launchInit_port_state ..) f

/-! ## Credit and credited frames (R114, R117, R118) -/

theorem State.Pooled.creditAdded {k : Nat} (hs : s.Pooled T 0) (h : (s.port p).state = .up) (hk : k ≤ Config.peerCreditMax) :
    (s.setPort p { s.port p with peerCredit := k }).Pooled T 0 :=
  hs.setPort ((hs.legal p).up h (hs.legal p).outstanding_le hk) rfl

theorem State.Pooled.creditSend {w : List (List Byte)} (hs : s.Pooled T 0) (h : (s.port p).state = .up) :
    (s.setPort p { s.port p with announced := (s.port p).announced + (s.port p).owed, owed := 0, wire := w }).Pooled T 0 := by
  have hlegal := hs.legal p
  refine hs.setPort (hlegal.up h hlegal.outstanding_le hlegal.peerCredit_le) ?_
  simp only [PortRecord.tornCells_eq]
  omega

/-- A credit's nine cells become the frame's chain, and what it does not fill returns to free (R114). -/
theorem State.Pooled.storeArrival (hs : s.Pooled T 0) (h : (s.port p).state = .up) (hcredit : (s.port p).announced ≠ 0) (f : List Byte) :
    (s.storeArrival p f).Pooled T 0 := by
  have hlegal := hs.legal p
  have hout := hlegal.outstanding_le
  simp only [State.storeArrival]
  split
  · refine State.Pooled.post (State.Pooled.release (State.Pooled.setPort hs (hlegal.up h ?_ hlegal.peerCredit_le) ?_)) _
    · omega
    · simp only [PortRecord.tornCells_eq, Config.creditCells]
      omega
  · next hshort =>
    refine State.Pooled.release (State.Pooled.setPort hs (hlegal.up h ?_ hlegal.peerCredit_le) ?_)
    · omega
    · have hfits : cellsFor f.length ≤ 9 := cellsFor_le_of_le (Nat.le_of_not_lt hshort)
      simp only [PortRecord.tornCells_eq, Config.creditCells, List.map_append, List.map_cons, List.map_nil, List.sum_append, List.sum_cons,
        List.sum_nil]
      omega

end Sys2Proof.Machine
end

section
/-! Every event keeps the link records legal and the 2048 cells (R111, R113, R118, R126; O53). -/

namespace Sys2Proof.Machine

variable {s t : State} {T : Nat}

theorem State.Pooled.postWrongLink {n : Nat} (hs : s.Pooled T n) (p : Port) (f : List Byte) : (s.postWrongLink p f).Pooled T n := by
  unfold State.postWrongLink
  split
  · exact hs.post _
  · exact hs.post _

theorem State.initWaitOver_state {p : Port} (h : s.initWaitOver p = true) : (s.port p).state = .initWait := by
  simp only [State.initWaitOver, Bool.and_eq_true, beq_iff_eq] at h
  exact h.1

theorem State.ignoresCredit_isUp {p : Port} {f : List Byte} (h : s.ignoresCredit p f = false) : (s.port p).state = .up := by
  simp only [State.ignoresCredit, Bool.or_eq_false_iff, Bool.not_eq_false', State.isUp_iff] at h
  obtain ⟨⟨⟨-, hup⟩, -⟩, -⟩ := h
  exact hup

/-- An event makes no cell and loses none, whatever their number. -/
theorem State.Pooled.occurs (hs : s.Pooled T 0) (h : s.Occurs t) : t.Pooled T 0 := by
  cases h with
  | verdict h => exact (hs.takeNext h).takeRequest
  | initiatorData h => exact (hs.takeKind h).takeInitiatorData
  | initiatorAbort h => exact (hs.takeKind h).takeAbort
  | targetProceed h =>
    have hu := hs.takeKind h
    exact hu.takeTargetFrame _ fun _ _ g hx => hu.proceedRule hx _ g
  | targetData h =>
    have hu := hs.takeKind h
    exact hu.takeTargetFrame _ fun _ _ g hx => hu.targetDataRule hx _ g
  | targetStatus h =>
    have hu := hs.takeKind h
    exact hu.takeTargetFrame _ fun _ _ g hx => hu.statusRule hx _ g
  | targetAbortDone h =>
    have hu := hs.takeKind h
    exact hu.takeTargetFrame _ fun i x g _ => hu.abortDoneRule _ i x g
  | unknownKind h => exact (hs.takeNext h).discard.post _
  | wrongLink h => exact (hs.takeNext h).discard.postWrongLink ..
  | exchangeExpiry h =>
    obtain ⟨hx, -⟩ := State.expired_eq_some_iff.1 h
    exact (hs.endWithStatus hx ..).post _
  | graceOver => exact hs.freeEntry _
  | graceAnswered => exact (hs.enqueueMade .i rfl).freeEntry _
  | holdExpiry => exact hs.expireHold ..
  | bodyExpiry => exact (hs.closeAndFree ..).post _
  | leaseExpiry => exact hs.endLease _
  | @resendExpiry b =>
    have hbatch : ({ s with batch := some { b with resend := none } } : State).Pooled T 0 := hs.congr (fun _ => rfl) rfl rfl
    exact hbatch.enqueueMade .i rfl
  | resyncCompletion =>
    refine State.Pooled.post ?_ _
    exact (hs.setStaging s.activeBank).congr (fun _ => rfl) rfl rfl
  | @replyService r rest =>
    have hrest : ({ s with startList := rest } : State).Pooled T 0 := hs.congr (fun _ => rfl) rfl rfl
    exact hrest.serve r
  | transmission hq hup => exact hs.sendHead ((s.isUp_iff _).1 hup) hq
  | headDiscard hq hup => exact hs.dropHead ((s.isUp_iff _).1 hup) hq
  | signalLossUp hup => exact hs.teardown (next := .down) ((s.isUp_iff _).1 hup) nofun nofun _
  | signalLossDown hdown =>
    have hstate := mt (s.isUp_iff _).2 (Bool.eq_false_iff.1 hdown)
    exact hs.leaveInitWait (next := .down) hstate nofun nofun (Nat.zero_le _) fun _ => Nat.zero_lt_succ _
  | initRetry hover hroom =>
    exact hs.leaveInitWait (next := .training) (State.initWaitOver_state hover ▸ nofun) nofun nofun hroom.le fun _ => hroom
  | @initFailure p hover _ =>
    have hstate := State.initWaitOver_state hover
    obtain ⟨-, hfailures⟩ := (hs.legal p).failuresOk
    exact (hs.leaveInitWait (next := .failed) (hstate ▸ nofun) nofun nofun (hfailures (hstate ▸ nofun)) fun hn => absurd rfl hn).post _
  | initJudged _ hstate => exact hs.judgeInit hstate _
  | peerRestart _ hstate => exact hs.peerRestart hstate _
  | @creditOverrun p _ h _ =>
    have hposted : (s.postOverrun p .peerCredit).Pooled T 0 := hs.post _
    exact hposted.teardown (next := .training) ((congrArg PortRecord.state (State.post_port ..)).trans (State.ignoresCredit_isUp h)) nofun nofun _
  | creditAdded h hmax => exact hs.creditAdded (State.ignoresCredit_isUp h) (Nat.le_of_not_lt hmax)
  | @noCredit p _ _ hup _ =>
    have hposted : (s.postOverrun p .noCredit).Pooled T 0 := hs.post _
    exact hposted.teardown (next := .training) ((congrArg PortRecord.state (State.post_port ..)).trans ((s.isUp_iff p).1 hup)) nofun nofun _
  | frameStored _ hup h => exact hs.storeArrival ((s.isUp_iff _).1 hup) h _

theorem State.Pooled.occursPlain (hs : s.Pooled T 0) (h : s.OccursPlain t) : t.Pooled T 0 := by
  cases h with
  | signalPresent h => exact hs.signalPresent h
  | laneLock h => exact hs.launchInit h
  | creditSend hup => exact hs.creditSend ((s.isUp_iff _).1 hup)
  | clockTick => exact hs.congr (fun _ => rfl) rfl rfl

/-- At power-on every one of the 2048 cells is free. -/
theorem State.powerOn_pooled (s : State) (pin : Bool) : (s.powerOn pin).Pooled 2048 0 := by
  have hreset : State.reset.Pooled 2048 0 := State.pooled_iff.2 ⟨State.reset_linksOk, State.reset_cellsConserved⟩
  exact hreset.congr (fun _ => rfl) rfl rfl

theorem State.Pooled.answers (hs : s.Pooled 2048 0) (h : s.Answers t) : t.Pooled 2048 0 := by
  cases h with
  | absent => exact hs
  | powerOn pin => exact s.powerOn_pooled pin
  | settled h => exact (hs.occurs h).settle
  | plain h => exact hs.occursPlain h

/-- Settles O53: each operation of an event hands its cells from one holder to the next, and changes a link record within its rules. -/
theorem eventsKeepLinksAndCells : Obligations.EventsKeepLinksAndCells := by
  intro s t hlinks hcells h
  obtain ⟨rest, h⟩ := step_answers h
  have hs : s.Pooled 2048 0 := State.pooled_iff.2 ⟨hlinks, hcells⟩
  have hrest : ({ s with pending := rest } : State).Pooled 2048 0 := hs.congr (fun _ => rfl) rfl rfl
  exact State.pooled_iff.1 (hrest.answers h)

end Sys2Proof.Machine
end

section
/-! CREDIT and credited frames on a port in UP, and the overruns that tear it down (R114, R115, R117 to R119, R130). -/

namespace Sys2Proof.Machine

variable {s : State} {p : Port} {f : List Byte}

/-! ## CREDIT that arrives (R118, R119) -/

theorem State.settle_port_state (s : State) (p : Port) : (s.settle.port p).state = (s.port p).state := by
  obtain ⟨n, hgrants⟩ := s.grant_grants
  rw [State.settle, s.grant.formBatch_queuesOnly.state, hgrants.port]

/-- A CREDIT of eight bytes and an increment of at least 1 counts on a port in UP. -/
theorem State.ignoresCredit_of_counting (hup : (s.port p).state = .up) {b1 b2 b3 n b5 b6 b7 : Byte} (hn : 1 ≤ n.toNat) :
    s.ignoresCredit p [0x07#8, b1, b2, b3, n, b5, b6, b7] = false := by
  have hinc : creditIncrement [0x07#8, b1, b2, b3, n, b5, b6, b7] ≠ 0 := Nat.one_le_iff_ne_zero.1 hn
  simp [State.ignoresCredit, isCreditFrame, (s.isUp_iff p).2 hup, hinc]

/-- A CREDIT on a port that is not UP, of another length, or of increment 0 counts for nothing (R118). -/
theorem State.ignoresCredit_of_idle (h : (s.port p).state ≠ .up ∨ f.length ≠ 8 ∨ byteAt f 4 = 0#8) : s.ignoresCredit p f = true := by
  obtain h | h | h := h
  · simp [State.ignoresCredit, State.isUp, h]
  · simp [State.ignoresCredit, h]
  · simp [State.ignoresCredit, creditIncrement, h]

theorem exec_creditArrival_ignored (h : s.ignoresCredit p f = true) : exec (.creditArrival p f) s = .next s :=
  event_absent (by simp [creditArrivalEvent, h])

/-- Within 65535 the increment is added. -/
theorem exec_creditArrival_added (hp : s.resetPin = false) (h : s.ignoresCredit p f = false)
    (hmax : (s.port p).peerCredit + creditIncrement f ≤ 65535) : exec (.creditArrival p f) s
      = .next (s.setPort p { s.port p with peerCredit := (s.port p).peerCredit + creditIncrement f }).settle := by
  have hroom : ¬Config.peerCreditMax < (s.port p).peerCredit + creditIncrement f := Nat.not_lt.2 hmax
  exact event_occurs hp (by simp only [creditArrivalEvent, h, Bool.false_eq_true, if_false, if_neg hroom])

/-- Past 65535 the port is torn down. -/
theorem exec_creditArrival_overrun (hp : s.resetPin = false) (h : s.ignoresCredit p f = false)
    (hmax : 65535 < (s.port p).peerCredit + creditIncrement f) :
    exec (.creditArrival p f) s = .next ((s.postOverrun p .peerCredit).teardown p .training .creditOverrun).settle := by
  have hover : Config.peerCreditMax < (s.port p).peerCredit + creditIncrement f := hmax
  exact event_occurs hp (by simp only [creditArrivalEvent, h, Bool.false_eq_true, if_false, if_pos hover])

/-! ## CREDIT that is sent (R117) -/

theorem ownCredit_encode (n : Nat) : (ownCredit n).encode = [0x07#8, 0#8, 0#8, 0#8, BitVec.ofNat 8 n, 0#8, 0#8, 0#8] := by
  simp [Frame.encode, ownCredit, FrameBody.kindCode, FrameBody.encode, toBE, kindCredit]

theorem exec_creditSend (hp : s.resetPin = false) (hup : (s.port p).state = .up) (howed : 1 ≤ (s.port p).owed) :
    exec (.creditSend p) s = .next (s.setPort p { s.port p with
      announced := (s.port p).announced + (s.port p).owed, owed := 0,
      wire := (s.port p).wire ++ [[0x07#8, 0#8, 0#8, 0#8, BitVec.ofNat 8 (s.port p).owed, 0#8, 0#8, 0#8]] }) := by
  have hsends : s.isUp p = true ∧ 0 < (s.port p).owed := ⟨(s.isUp_iff p).2 hup, howed⟩
  refine plainEvent_occurs (f := creditSendEvent p) hp ?_
  simp only [creditSendEvent, if_pos hsends, ownCredit_encode]

/-! ## Credited frames (R114, R115) -/

theorem isCreditedFrame_of (hcredit : f.head? ≠ some 0x07#8) (hinit : f.head? ≠ some 0x08#8) : isCreditedFrame f = true := by
  simp [isCreditedFrame, isInitFrame, isCreditFrame, hcredit, hinit]

/-- A credited frame on a port that is not UP is discarded as it arrives (R114). -/
theorem exec_creditedFrameArrival_down (hdown : (s.port p).state ≠ .up) : exec (.creditedFrameArrival p f) s = .next s :=
  event_absent (by simp [creditedArrivalEvent, State.isUp, hdown])

theorem exec_creditedFrameArrival_stored (hp : s.resetPin = false) (hup : (s.port p).state = .up) (hf : isCreditedFrame f = true)
    (hannounced : (s.port p).announced ≠ 0) : exec (.creditedFrameArrival p f) s = .next (s.storeArrival p f).settle :=
  event_occurs hp (by simp [creditedArrivalEvent, hf, (s.isUp_iff p).2 hup, hannounced])

theorem exec_creditedFrameArrival_noCredit (hp : s.resetPin = false) (hup : (s.port p).state = .up) (hf : isCreditedFrame f = true)
    (hannounced : (s.port p).announced = 0) :
    exec (.creditedFrameArrival p f) s = .next ((s.postOverrun p .noCredit).teardown p .training .creditOverrun).settle :=
  event_occurs hp (by simp [creditedArrivalEvent, hf, (s.isUp_iff p).2 hup, hannounced])

/-- A frame of at most 576 bytes joins the arrivals in its own cells. -/
theorem State.storeArrival_of_short (h : f.length ≤ 576) :
    s.storeArrival p f = (s.setPort p { s.port p with
      announced := (s.port p).announced - 1, arrived := (s.port p).arrived ++ [f] }).release (9 - (f.length + 63) / 64) :=
  if_neg (Nat.not_lt.2 h)

/-- A longer one is not stored. -/
theorem State.storeArrival_of_long (h : ¬f.length ≤ 576) :
    s.storeArrival p f = ((s.setPort p { s.port p with announced := (s.port p).announced - 1 }).release 9).post
      { cause := .staleFrame .oversize, time := s.clock, link := some p } := by
  have hlong : Config.longestFrame < f.length := Nat.lt_of_not_le h
  simp only [State.storeArrival, if_pos hlong, State.postStaleLink, State.alertOf, State.release_clock, State.setPort_clock]
  rfl

/-! ## The statements -/

/-- Settles O12: by what arrives or is sent, and by whether the port can count it. -/
theorem creditIsCounted : Obligations.CreditIsCounted := by
  refine ⟨fun s p b1 b2 b3 n b5 b6 b7 hp hup hn hmax => exec_creditArrival_added hp (State.ignoresCredit_of_counting hup hn) hmax,
    fun s p f => ⟨fun _ h => exec_creditArrival_ignored (State.ignoresCredit_of_idle h), exec_creditedFrameArrival_down⟩,
    fun s p => exec_creditSend, fun s p f hp hup hannounced hcredit hinit => ?_⟩
  refine ⟨s.storeArrival p f,
    exec_creditedFrameArrival_stored hp hup (isCreditedFrame_of hcredit hinit) (Nat.one_le_iff_ne_zero.1 hannounced), ?_⟩
  by_cases h : f.length ≤ 576
  · simp only [State.storeArrival_of_short h, if_pos h]
    refine ⟨by simp, fun q hq => by simp [State.setPort_port_ne _ _ hq], fun i => by simp, ⟨by simp, by simp⟩, s.setPort_sameCore p _, by simp,
      ⟨by simp, by simp⟩⟩
  · simp only [State.storeArrival_of_long h, if_neg h]
    refine ⟨by simp, fun q hq => by simp [State.setPort_port_ne _ _ hq], fun i => by simp, ⟨by simp, by simp⟩,
      (s.setPort_sameCore p _).trans (State.post_sameCore ..), by simp, ?_⟩
    exact State.posted_of (by simp [State.post_alerts]) (by simp [State.post_dropped])

/-- Settles O13: the teardown leaves the port in TRAINING and at rest, and there a CREDIT counts for nothing. -/
theorem creditPast65535TearsDown : Obligations.CreditPast65535TearsDown := by
  intro s p b1 b2 b3 n b5 b6 b7 hp hup hn hmax
  obtain ⟨hstate, hquiet⟩ := (s.postOverrun p .peerCredit).teardown_port p (next := .training) nofun .creditOverrun
  refine ⟨_, exec_creditArrival_overrun hp (State.ignoresCredit_of_counting hup hn) hmax, rfl, s.posted_post _, hstate, hquiet, ?_⟩
  intro c1 c2 c3 m c5 c6 c7
  refine exec_creditArrival_ignored (State.ignoresCredit_of_idle (.inl ?_))
  rw [State.settle_port_state, hstate]
  nofun

/-- Settles O14: the frame finds no credit, and the port is torn down before anything is stored. -/
theorem frameWithoutCreditTearsDown : Obligations.FrameWithoutCreditTearsDown := by
  intro s p f hp hup hannounced hcredit hinit
  obtain ⟨hstate, hquiet⟩ := (s.postOverrun p .noCredit).teardown_port p (next := .training) nofun .creditOverrun
  exact ⟨_, exec_creditedFrameArrival_noCredit hp hup (isCreditedFrame_of hcredit hinit) hannounced, rfl, s.posted_post _, hstate, hquiet⟩

end Sys2Proof.Machine
end

section
/-! The ALERT frame, its transmission, and the layout of an alert record (R157, R159, R160; 13.1, 13.3). -/

namespace Sys2Proof.Machine

/-! ## The ALERT frame (R159, R160) -/

section
variable {s : State} {d : Descriptor}

theorem Descriptor.of_alert (hc : d.content = .alert) : d.isData = false ∧ d.isRequest = false ∧ d.isAlert = true ∧ d.cells = 0 := by
  simp [Descriptor.isData, Descriptor.isRequest, Descriptor.isAlert, Descriptor.cells, hc]

/-- Once the ALERT frame is out, its resend deadline runs, and nothing else follows. -/
theorem State.completed_of_alert (s : State) (p : Port) (hc : d.content = .alert) (hw : d.warmMark = false) :
    s.completed p d = s.alertSent := by
  obtain ⟨hdata, hrequest, halert, -⟩ := Descriptor.of_alert hc
  simp only [State.completed, hdata, hrequest, halert, hw, Bool.false_eq_true, and_false, if_false, if_true]
  cases d.entry <;> rfl

theorem State.sendHead_of_alert (rest : List Descriptor) (hc : d.content = .alert) (hw : d.warmMark = false) :
    s.sendHead .i d rest = (s.afterSending .i s.alertFrame rest).alertSent := by
  obtain ⟨hdata, -, -, hcells⟩ := Descriptor.of_alert hc
  have hframe : ∀ m, s.frameToSend d m = s.alertFrame := fun m => by simp [State.frameToSend, hc]
  rw [State.sendHead_of_last rest (Descriptor.progressAfter_of_not_data hdata _), State.completed_of_alert _ _ hc hw, hframe, hcells]
  rfl

/-- The ALERT frame names the owner and holds the batch: its sequence, the carried dropped count once, its records. -/
theorem State.alertFrame_encode {b : Batch} {l : Lease} (hb : s.batch = some b) (hl : s.lease = some l) (hsize : b.size ≤ s.alerts.length) :
    s.alertFrame.encode = [0x09#8, BitVec.ofNat 8 (l.owner.val * 16), 0#8, 0#8] ++ toBE 2 b.sequence.toNat
      ++ toBE 2 (if b.sentOnce then 0 else b.carried) ++ [BitVec.ofNat 8 b.size, 0#8, 0#8, 0#8]
      ++ (s.alerts.take b.size).flatMap Alert.encode := by
  simp [State.alertFrame, hb, hl, Frame.encode, FrameBody.kindCode, FrameBody.encode, kindAlert, toBE, hsize]

end

/-! ## An alert record (R157; 13.3) -/

theorem TimeoutDetail.byte_mem (d : TimeoutDetail) :
    (d, d.byte) ∈ [(TimeoutDetail.notSent, 0x01#8), (.sent, 0x02#8), (.body, 0x03#8)] := by cases d <;> decide

theorem ViolationDetail.byte_mem (d : ViolationDetail) :
    (d, d.byte) ∈ [(ViolationDetail.form, 0x01#8), (.direction, 0x02#8), (.offset, 0x03#8), (.overWindow, 0x04#8), (.overLength, 0x05#8)] := by
  cases d <;> decide

theorem StaleDetail.byte_mem (d : StaleDetail) :
    (d, d.byte) ∈ [(StaleDetail.tagRange, 0x01#8), (.initiatorId, 0x02#8), (.entryFree, 0x03#8), (.incarnation, 0x04#8), (.notData, 0x05#8),
      (.otherLink, 0x06#8), (.notSent, 0x07#8), (.unknownKind, 0x08#8), (.shortFrame, 0x09#8), (.held, 0x0A#8), (.noExchange, 0x0B#8),
      (.afterStatus, 0x0C#8), (.wrongLink, 0x0D#8), (.noAbort, 0x0E#8), (.form, 0x0F#8), (.oversize, 0x10#8)] := by cases d <;> decide

theorem LinkDetail.byte_mem (d : LinkDetail) :
    (d, d.byte) ∈ [(LinkDetail.up, 0x01#8), (.signalLoss, 0x02#8), (.peerRestart, 0x03#8), (.creditOverrun, 0x04#8), (.sameRole, 0x05#8),
      (.badInit, 0x06#8), (.noInit, 0x07#8)] := by cases d <;> decide

theorem OverrunDetail.byte_mem (d : OverrunDetail) : (d, d.byte) ∈ [(OverrunDetail.noCredit, 0x01#8), (.peerCredit, 0x02#8)] := by
  cases d <;> decide

theorem LeaseEnd.byte_mem (r : LeaseEnd) :
    (r, r.byte) ∈ [(LeaseEnd.expired, 0x01#8), (.released, 0x02#8), (.revoked, 0x03#8), (.linkLost, 0x04#8)] := by cases r <;> decide

/-- An alert without a link has the byte of port I there, with its presence bit clear. -/
theorem alertLinkCode_mem (p : Option Port) :
    (p.getD .i, (p.map alertLinkCode).getD 0x00#8) ∈ [(Port.i, 0x00#8), (.t0, 0x01#8), (.t1, 0x02#8)] := by
  cases p with
  | none => decide
  | some q => cases q <;> decide

theorem Alert.toNat_presence (a : Alert) :
    a.presence.toNat = (if a.entry.isSome then 1 else 0) + (if a.initiator.isSome then 2 else 0) + (if a.tag.isSome then 4 else 0)
      + (if a.view.isSome then 8 else 0) + (if a.link.isSome then 16 else 0) + (if a.frameKind.isSome then 32 else 0)
      + (if a.request.isSome then 64 else 0) + (if a.generation.isSome then 128 else 0) := by
  refine toNat_byte_eq rfl ?_
  have h1 := bitIf_le a.entry.isSome 1
  have h2 := bitIf_le a.initiator.isSome 2
  have h4 := bitIf_le a.tag.isSome 4
  have h8 := bitIf_le a.view.isSome 8
  have h16 := bitIf_le a.link.isSome 16
  have h32 := bitIf_le a.frameKind.isSome 32
  have h64 := bitIf_le a.request.isSome 64
  have h128 := bitIf_le a.generation.isSome 128
  simp only [bitIf_eq] at *
  omega

/-- A field that may be absent reads as zero then, and fits in its bytes as its values do. -/
theorem getD_map_lt {α : Type} {g : α → Nat} {n : Nat} (hn : 0 < n) (hg : ∀ v, g v < n) (o : Option α) : (o.map g).getD 0 < n := by
  cases o with
  | none => exact hn
  | some v => exact hg v

theorem toNat_initiatorByte_getD (o : Option InitiatorId) : ((o.map initiatorByte).getD 0#8).toNat = (o.map fun n => n.val).getD 0 := by
  cases o with
  | none => rfl
  | some n => exact toNat_initiatorByte n

/-- Settles O40: the ALERT goes out whole as any head does; of a record each byte stands where 13.3 puts it, and each field reads as the number
written there. -/
theorem alertFrameStartsResendDeadline : Obligations.AlertFrameStartsResendDeadline := by
  refine ⟨fun s d rest b l hp hup hcredit hq hc hw hb hl hsize => ?_, fun a => ?_⟩
  · obtain ⟨hdata, -⟩ := Descriptor.of_alert hc
    rw [exec_transmission hp hup hcredit hq (State.passesHead_of_not_data hdata), State.sendHead_of_alert rest hc hw]
    simp only [State.afterSending, State.alertFrame_encode hb hl hsize, State.alertSent, State.setPort, State.port, hb, Option.map_some]
    rfl
  · intro w
    have hw : w = a.encode := rfl
    clear_value w
    simp only [Alert.encode, toBE, List.cons_append, List.nil_append] at hw
    subst hw
    refine ⟨rfl, fieldAt_eq rfl a.time.isLt, a.toNat_presence, ?_, toNat_byte_eq rfl (getD_map_lt (by decide) (fun r => by omega) _),
      toNat_byte_eq rfl (getD_map_lt (by decide) (fun r => by omega) _), toNat_initiatorByte_getD a.initiator, alertLinkCode_mem a.link,
      fieldAt_eq rfl (getD_map_lt (by decide) (fun t => t.isLt) _), toNat_byte_eq rfl (getD_map_lt (by decide) (fun v => by omega) _), rfl, rfl,
      fieldAt_eq rfl (getD_map_lt (by decide) (fun q => q.block.isLt) _), fun q hq hcount => ?_, fun hq => ?_,
      fieldAt_eq rfl (getD_map_lt (by decide) (fun g => g.isLt) _), fun n hn => ?_⟩
    · cases a.cause with
      | holdArrival | holdExpired | denial c | commitDone => exact ⟨rfl, rfl⟩
      | timeout d => exact ⟨rfl, d.byte_mem⟩
      | phaseViolation d => exact ⟨rfl, d.byte_mem⟩
      | staleFrame d => exact ⟨rfl, d.byte_mem⟩
      | linkChange d => exact ⟨rfl, d.byte_mem⟩
      | creditOverrun d => exact ⟨rfl, d.byte_mem⟩
      | leaseEnded r => exact ⟨rfl, r.byte_mem⟩
    · exact fieldAt_eq (by rw [hq]; rfl) hcount
    · exact fieldAt_eq (by rw [hq]; rfl) (by decide)
    · fin_cases hn <;> rfl

end Sys2Proof.Machine
end

section
/-! Bring-up of a port, the judgement of a peer's INIT, and the end of an INIT wait (R113, R127 to R129, R131). -/

namespace Sys2Proof.Machine

variable {s t u : State} {p : Port} {r r' : PortRecord} {f : List Byte} {d : LinkDetail}

/-! ## Changes of one port's record -/

/-- Port p has the record `r`; every other port, the entries, the lists and the core are as they were. Of cells and alerts nothing is
said. -/
structure State.OnlyPort (s u : State) (p : Port) (r : PortRecord) : Prop where
  port : u.port p = r
  others : s.samePortsBut u p
  entries : s.sameEntries u
  lists : s.sameLists u
  core : s.sameCore u

theorem State.setPort_onlyPort (s : State) (p : Port) (r : PortRecord) : s.OnlyPort (s.setPort p r) p r :=
  ⟨State.setPort_port_self .., fun _ hq => State.setPort_port_ne _ _ hq, State.setPort_entry s p r, State.setPort_sameLists ..,
    State.setPort_sameCore ..⟩

theorem State.OnlyPort.trans (h : s.OnlyPort t p r) (k : t.OnlyPort u p r') : s.OnlyPort u p r' :=
  ⟨k.port, fun q hq => (k.others q hq).trans (h.others q hq), fun i => (k.entries i).trans (h.entries i), h.lists.trans k.lists,
    h.core.trans k.core⟩

theorem State.OnlyPort.release (h : s.OnlyPort t p r) (n : Nat) : s.OnlyPort (t.release n) p r :=
  ⟨(t.release_port n p).trans h.port, fun q hq => (t.release_port n q).trans (h.others q hq),
    fun i => (t.release_entry n i).trans (h.entries i), h.lists, h.core⟩

theorem State.OnlyPort.takeCells (h : s.OnlyPort t p r) (n : Nat) : s.OnlyPort (t.takeCells n) p r :=
  ⟨(t.takeCells_port n p).trans h.port, fun q hq => (t.takeCells_port n q).trans (h.others q hq),
    fun i => (t.takeCells_entry n i).trans (h.entries i), h.lists, h.core⟩

theorem State.OnlyPort.post (h : s.OnlyPort t p r) (a : Alert) : s.OnlyPort (t.post a) p r :=
  ⟨(t.post_port a p).trans h.port, fun q hq => (t.post_port a q).trans (h.others q hq),
    fun i => (t.post_entry a i).trans (h.entries i), h.lists.trans (t.post_sameLists a), h.core.trans (t.post_sameCore a)⟩

/-- The LINK_CHANGE of a state with the alerts and the clock of another is that other's (R131). -/
theorem State.sameAlerts.posted_postLink (h : s.sameAlerts t) (hclock : t.clock = s.clock) (p : Port) (d : LinkDetail) :
    s.posted (t.postLink p d) { cause := .linkChange d, time := s.clock, link := some p } := by
  rw [← hclock]
  exact h.posted_post _

/-! ## The INIT that the part sends (R113, R127) -/

theorem State.offer_eq (s : State) (p : Port) : s.offer p = min (if p = .i then 32 else 16) (s.freeCells / 9) := by cases p <;> rfl

theorem ownInit_encode (p : Port) (n : Nat) : (ownInit p n).encode = initBytes p n := by
  cases p <;> simp [Frame.encode, ownInit, FrameBody.kindCode, FrameBody.encode, toBE, initBytes, ownRole, kindInit, roleTargetSide,
    roleInitiatorSide, Config.ownSegment, Config.initRevision]

/-- The offered credit never exceeds what the free cells can bear. -/
theorem State.offer_cells_le (s : State) (p : Port) : 9 * s.offer p ≤ s.freeCells :=
  (Nat.mul_le_mul_left 9 (Nat.min_le_right ..)).trans (Nat.mul_div_le s.freeCells 9)

theorem State.launchInit_onlyPort (s : State) (p : Port) : s.OnlyPort (s.launchInit p) p { s.port p with
    state := .initWait, initDeadline := some (s.clock + 50#32), offered := s.offer p,
    wire := (s.port p).wire ++ [initBytes p (s.offer p)] } := by
  simp only [State.launchInit, ownInit_encode]
  exact (s.setPort_onlyPort p _).takeCells _

theorem State.launchInit_sameAlerts (s : State) (p : Port) : s.sameAlerts (s.launchInit p) := State.setPort_sameAlerts ..

theorem State.launchInit_freeCells (s : State) (p : Port) : (s.launchInit p).freeCells = s.freeCells - 9 * s.offer p := by
  rw [State.launchInit, State.takeCells_freeCells, State.setPort_freeCells, Config.creditCells]

/-! ## INIT_WAIT is left (R128, R129) -/

theorem State.leaveInitWait_onlyPort (s : State) (p : Port) (next : PortState) (k : Nat) :
    s.OnlyPort (s.leaveInitWait p next k) p { s.port p with state := next, initDeadline := none, offered := 0, initFailures := k } :=
  (s.setPort_onlyPort p _).release _

theorem State.leaveInitWait_sameAlerts (s : State) (p : Port) (next : PortState) (k : Nat) :
    s.sameAlerts (s.leaveInitWait p next k) := State.setPort_sameAlerts ..

theorem State.leaveInitWait_freeCells (s : State) (p : Port) (next : PortState) (k : Nat) :
    (s.leaveInitWait p next k).freeCells = s.freeCells + 9 * (s.port p).offered := by
  rw [State.leaveInitWait, State.release_freeCells, State.setPort_freeCells, Config.creditCells]

/-- A port leaves INIT_WAIT with an alert: the same change of its record, the same cells, and one LINK_CHANGE. -/
theorem State.leaveInitWait_postLink (s : State) (p : Port) (next : PortState) (k : Nat) (d : LinkDetail) :
    let v := (s.leaveInitWait p next k).postLink p d
    s.OnlyPort v p { s.port p with state := next, initDeadline := none, offered := 0, initFailures := k }
      ∧ v.freeCells = s.freeCells + 9 * (s.port p).offered
      ∧ s.posted v { cause := .linkChange d, time := s.clock, link := some p } :=
  ⟨(s.leaveInitWait_onlyPort p next k).post _, (State.post_freeCells ..).trans (s.leaveInitWait_freeCells p next k),
    (s.leaveInitWait_sameAlerts p next k).posted_postLink (State.setPort_clock ..) p d⟩

/-- An accepted INIT changes the port's record, no cell, and posts LINK_CHANGE UP. -/
theorem State.enterUp_onlyPort (s : State) (p : Port) (f : List Byte) :
    s.OnlyPort (s.enterUp p f) p { s.port p with
        state := .up, initDeadline := none, initFailures := 0, peerSegment := some (64 * initSegmentUnits f), peerCredit := initCredit f,
        announced := (s.port p).announced + (s.port p).offered, offered := 0 }
      ∧ (s.enterUp p f).freeCells = s.freeCells
      ∧ s.posted (s.enterUp p f) { cause := .linkChange .up, time := s.clock, link := some p } :=
  ⟨(s.setPort_onlyPort p _).post _, (State.post_freeCells ..).trans (State.setPort_freeCells ..),
    (s.setPort_sameAlerts p _).posted_postLink (State.setPort_clock ..) p .up⟩

/-! ## The judgement of a peer's INIT (R128) -/

/-- The INIT of a peer of the other side, of 1 to 8 units and with a zero reserved field, has no fault. -/
theorem initFault_of_valid (p : Port) {b1 b2 b3 seg credit rev : Byte} (hb : b1.toNat % 16 = 0) (hlow : 1 ≤ seg.toNat)
    (hhigh : seg.toNat ≤ 8) :
    initFault (ownRole p) [0x08#8, b1, b2, b3, if p = .i then 0x01#8 else 0x02#8, seg, credit, rev] = none := by
  have hunits : ¬(seg.toNat < 1 ∨ 8 < seg.toNat) := by omega
  cases p <;> simp_all [initFault, ownRole, roleInitiatorSide, roleTargetSide, initRole, initSegmentUnits, headerReservedZero, byteAt]

theorem initFault_of_faulty (h : initFaulty p f d) : initFault (ownRole p) f = some d := by
  have hrole : ownRole p = if p = .i then 0x02#8 else 0x01#8 := by cases p <;> rfl
  unfold initFaulty at h
  rw [← hrole] at h
  obtain ⟨hlen, rfl⟩ | ⟨hlen, hown, rfl⟩ | ⟨hlen, hown, rfl, hfault⟩ := h
  · exact if_pos hlen
  · rw [initFault, if_neg (not_not.2 hlen), initRole, if_pos hown]
  · rw [initFault, if_neg (not_not.2 hlen), initRole, if_neg hown, if_pos]
    obtain hfault | hfault | hfault | hfault := hfault
    · exact .inl hfault
    · exact .inr (.inl (Nat.lt_one_iff.2 hfault))
    · exact .inr (.inr (.inl hfault))
    · exact .inr (.inr (.inr (beq_eq_false_iff_ne.2 hfault)))

theorem State.judgeInit_of_valid (h : initFault (ownRole p) f = none) : s.judgeInit p f = s.enterUp p f := by
  rw [State.judgeInit, h]

theorem State.judgeInit_of_fault (h : initFault (ownRole p) f = some d) :
    s.judgeInit p f = (s.leaveInitWait p .failed (s.port p).initFailures).postLink p d := by
  rw [State.judgeInit, h]

/-! ## The events of a port -/

theorem isInitFrame_of_kind (h : byteAt f 0 = 0x08#8) : isInitFrame f = true := by
  cases f with
  | nil => cases h
  | cons b f => exact beq_iff_eq.2 (congrArg some h)

theorem exec_initArrival (hp : s.resetPin = false) (h : (s.port p).state = .initWait) (hf : isInitFrame f = true) :
    exec (.initArrival p f) s = .next (s.judgeInit p f).settle :=
  event_occurs hp (by simp [receiveInit, hf, h])

theorem exec_peerRestart (hp : s.resetPin = false) (h : (s.port p).state = .up) (hf : isInitFrame f = true) :
    exec (.peerRestart p f) s = .next (((s.teardown p .training .peerRestart).launchInit p).judgeInit p f).settle :=
  event_occurs hp (by simp [receiveInit, hf, h])

theorem exec_signalLoss_of_up (hp : s.resetPin = false) (h : (s.port p).state = .up) :
    exec (.signalLoss p) s = .next (s.teardown p .down .signalLoss).settle :=
  event_occurs hp (by rw [signalLossEvent, if_pos ((s.isUp_iff p).2 h)])

theorem exec_signalLoss_of_not_up (hp : s.resetPin = false) (h : (s.port p).state ≠ .up) :
    exec (.signalLoss p) s = .next (s.leaveInitWait p .down 0).settle :=
  event_occurs hp (by rw [signalLossEvent, if_neg fun hup => h ((s.isUp_iff p).1 hup)])

theorem exec_initWaitExpiry_of_over (hp : s.resetPin = false) (h : s.initWaitOver p = true) :
    exec (.initWaitExpiry p) s = .next (if (s.port p).initFailures + 1 < 8 then s.leaveInitWait p .training ((s.port p).initFailures + 1)
      else (s.leaveInitWait p .failed ((s.port p).initFailures + 1)).postLink p .noInit).settle := by
  refine event_occurs hp ?_
  rw [initWaitExpiryEvent, if_pos h, Config.initFailureLimit]
  split <;> rfl

/-! ## The statements -/

/-- Settles O6: each event replaces the port's record, and lane lock takes the offered cells that the other two give back. -/
theorem initWaitBeginsAndEnds : Obligations.InitWaitBeginsAndEnds := by
  refine ⟨fun s p hp h => plainEvent_occurs hp (if_pos h), fun s p hp h => ⟨s.offer p, s.offer_eq p, ?_⟩,
    fun s p d hp h hd hover => ?_, fun s p hp h => ?_⟩
  · have hlaunch : exec (.laneLock p) s = .next (s.launchInit p) := plainEvent_occurs hp (if_pos h)
    rw [hlaunch]
    simp only [State.launchInit, ownInit_encode, State.takeCells, State.setPort_freeCells]
    rfl
  · have hreached : s.initWaitOver p = true := State.initWaitOver_iff.2 ⟨h, d, hd, decide_eq_true hover⟩
    refine ⟨_, exec_initWaitExpiry_of_over hp hreached, ?_⟩
    by_cases hk : (s.port p).initFailures + 1 < 8
    · simp only [if_pos hk]
      obtain ⟨hport, hothers, hentries, hlists, hcore⟩ := s.leaveInitWait_onlyPort p .training ((s.port p).initFailures + 1)
      exact ⟨hport, hothers, hentries, hlists, hcore, s.leaveInitWait_freeCells .., s.leaveInitWait_sameAlerts ..⟩
    · simp only [if_neg hk]
      obtain ⟨⟨hport, hothers, hentries, hlists, hcore⟩, hcells, hposted⟩ :=
        s.leaveInitWait_postLink p .failed ((s.port p).initFailures + 1) .noInit
      exact ⟨hport, hothers, hentries, hlists, hcore, hcells, hposted⟩
  · obtain ⟨hport, hothers, hentries, hlists, hcore⟩ := s.leaveInitWait_onlyPort p .down 0
    exact ⟨_, exec_signalLoss_of_not_up hp h, hport, hothers, hentries, hlists, hcore, s.leaveInitWait_sameAlerts ..,
      s.leaveInitWait_freeCells ..⟩

/-- Settles O7: by whether the INIT has a fault. -/
theorem initBringsUpOrFails : Obligations.InitBringsUpOrFails := by
  refine ⟨fun s p b1 b2 b3 seg credit rev hp h hb hlow hhigh => ?_, fun s p f d hp h hf hfaulty => ?_⟩
  · obtain ⟨⟨hport, hothers, hentries, hlists, hcore⟩, hcells, hposted⟩ :=
      s.enterUp_onlyPort p [0x08#8, b1, b2, b3, if p = .i then 0x01#8 else 0x02#8, seg, credit, rev]
    refine ⟨_, ?_, hport, hothers, hentries, hlists, hcore, hcells, hposted⟩
    rw [exec_initArrival hp h (isInitFrame_of_kind rfl), State.judgeInit_of_valid (initFault_of_valid p hb hlow hhigh)]
  · obtain ⟨⟨hport, hothers, hentries, hlists, hcore⟩, hcells, hposted⟩ :=
      s.leaveInitWait_postLink p .failed (s.port p).initFailures d
    refine ⟨_, ?_, hport, hothers, hentries, hlists, hcore, hcells, hposted⟩
    rw [exec_initArrival hp h (isInitFrame_of_kind hf), State.judgeInit_of_fault (initFault_of_faulty hfaulty)]

end Sys2Proof.Machine
end

section
/-! What a teardown makes of the exchange table, one entry after the other (R130, R132, R133; log entry 28). -/

namespace Sys2Proof.Machine

/-! ## Descriptors that leave a queue, and others that join it -/

/-- A port's record without the descriptors that `g` selects. -/
def PortRecord.without (r : PortRecord) (g : Descriptor → Bool) : PortRecord := { r with egress := r.egress.filter fun d => !g d }

theorem PortRecord.without_none (r : PortRecord) : r.without (fun _ => false) = r := by simp [PortRecord.without]

theorem PortRecord.without_without (r : PortRecord) (g h : Descriptor → Bool) :
    (r.without g).without h = r.without fun d => g d || h d := by
  simp [PortRecord.without, Bool.and_comm]

/-- What joins a queue stays in it when `g` selects none of it. -/
theorem PortRecord.queued_without (r : PortRecord) {ds : List Descriptor} {g : Descriptor → Bool} (h : ∀ d ∈ ds, g d = false) :
    (r.queued ds).without g = (r.without g).queued ds := by
  unfold PortRecord.queued
  by_cases hup : r.state = .up
  · simpa [hup, PortRecord.without] using h
  · simp [hup, PortRecord.without]

theorem PortRecord.filter_queued (r : PortRecord) {ds : List Descriptor} {g : Descriptor → Bool} (h : ∀ d ∈ ds, g d = false) :
    (r.queued ds).egress.filter g = r.egress.filter g := by
  unfold PortRecord.queued
  split
  · simpa using h
  · rfl

/-- The cells of what leaves a queue at once are those of what leaves it in turn. -/
theorem queueCells_filter_or (ds : List Descriptor) (g h : Descriptor → Bool) :
    queueCells (ds.filter g) + queueCells ((ds.filter fun d => !g d).filter h) = queueCells (ds.filter fun d => g d || h d) := by
  have hparts := queueCells_filter (ds.filter fun d => g d || h d) g
  have hfirst : (ds.filter fun d => g d || h d).filter g = ds.filter g := by
    rw [List.filter_filter]; exact List.filter_congr fun d _ => by cases g d <;> rfl
  have hthen : (ds.filter fun d => g d || h d).filter (fun d => !g d) = (ds.filter fun d => !g d).filter h := by
    rw [List.filter_filter, List.filter_filter]; exact List.filter_congr fun d _ => by cases g d <;> cases h d <;> rfl
  rw [hfirst, hthen] at hparts
  omega

/-! ## A pass over entries -/

/-- What a pass over the entries does for one of them: the entry that it leaves, what joins and what leaves each port's queue, the cells that the
entry gives back, and whether its place leaves the hold queue. -/
structure EntryEffect where
  after : Entry
  joins : Port → Option Descriptor
  leaves : Port → Descriptor → Bool
  cells : Nat
  unheld : Bool

/-- The descriptor leaves port q's queue for some entry of `l`. -/
def leavesFor (eff : EntryIndex → EntryEffect) (l : List EntryIndex) (q : Port) (d : Descriptor) : Bool := l.any fun i => (eff i).leaves q d

/-- The entries `l`, each once, have had their effects, in this order, and nothing else has changed. -/
structure State.Passed (s u : State) (eff : EntryIndex → EntryEffect) (l : List EntryIndex) : Prop where
  entry : ∀ j, u.entry j = if j ∈ l then (eff j).after else s.entry j
  port : ∀ q, u.port q = ((s.port q).without (leavesFor eff l q)).queued (l.filterMap fun i => (eff i).joins q)
  hold : u.holdQueue = s.holdQueue.filter fun h => !(decide (h.entry.index ∈ l) && (eff h.entry.index).unheld)
  start : u.startList = s.startList
  cells : u.freeCells = s.freeCells + (l.map fun i => (eff i).cells).sum
    + (allPorts.map fun q => queueCells ((s.port q).egress.filter (leavesFor eff l q))).sum
  core : s.sameCore u
  alerts : s.sameAlerts u

variable {s t u : State} {eff : EntryIndex → EntryEffect} {i : EntryIndex} {l : List EntryIndex}

theorem State.Passed.nil (s : State) (eff : EntryIndex → EntryEffect) : s.Passed s eff [] where
  entry _ := (if_neg List.not_mem_nil).symm
  port q := ((PortRecord.queued_nil _).trans (s.port q).without_none).symm
  hold := by simp
  start := rfl
  cells := by
    have hnone : ∀ q, leavesFor eff [] q = fun _ => false := fun _ => rfl
    simp [allPorts, hnone, queueCells]
  core := s.sameCore_refl
  alerts := s.sameAlerts_refl

theorem leavesFor_singleton (eff : EntryIndex → EntryEffect) (i : EntryIndex) (q : Port) : leavesFor eff [i] q = (eff i).leaves q := by
  funext d; simp [leavesFor]

theorem leavesFor_cons (eff : EntryIndex → EntryEffect) (i : EntryIndex) (l : List EntryIndex) (q : Port) :
    leavesFor eff (i :: l) q = fun d => (eff i).leaves q d || leavesFor eff l q d := by
  funext d; simp [leavesFor]

/-- A pass over one entry. -/
theorem State.Passed.single (hentry : t.entry i = (eff i).after) (hothers : s.sameEntriesBut t i)
    (hport : ∀ q, t.port q = ((s.port q).without ((eff i).leaves q)).queued ((eff i).joins q).toList)
    (hhold : t.holdQueue = if (eff i).unheld then s.holdQueue.filter (fun h => h.entry.index ≠ i) else s.holdQueue)
    (hstart : t.startList = s.startList)
    (hcells : t.freeCells = s.freeCells + (eff i).cells
      + (allPorts.map fun q => queueCells ((s.port q).egress.filter ((eff i).leaves q))).sum)
    (hcore : s.sameCore t) (halerts : s.sameAlerts t) : s.Passed t eff [i] where
  entry j := by
    by_cases hj : j = i
    · subst hj; simpa using hentry
    · simpa [hj] using hothers j hj
  port q := by rw [hport, leavesFor_singleton, List.filterMap_eq_flatMap_toList, List.flatMap_singleton]
  hold := by
    rw [hhold]
    cases hu : (eff i).unheld with
    | true =>
      refine List.filter_congr fun h _ => ?_
      by_cases hi : h.entry.index = i <;> simp [hi, hu]
    | false =>
      refine (List.filter_eq_self.2 fun h _ => ?_).symm
      by_cases hi : h.entry.index = i <;> simp [hi, hu]
  start := hstart
  cells := by simpa [leavesFor_singleton] using hcells
  core := hcore
  alerts := halerts

/-- A pass over one entry for which no descriptor leaves a queue. -/
theorem State.Passed.single_of_none_leaves (hleaves : ∀ q d, (eff i).leaves q d = false) (hentry : t.entry i = (eff i).after)
    (hothers : s.sameEntriesBut t i) (hport : ∀ q, t.port q = (s.port q).queued ((eff i).joins q).toList)
    (hhold : t.holdQueue = if (eff i).unheld then s.holdQueue.filter (fun h => h.entry.index ≠ i) else s.holdQueue)
    (hstart : t.startList = s.startList) (hcells : t.freeCells = s.freeCells + (eff i).cells) (hcore : s.sameCore t)
    (halerts : s.sameAlerts t) : s.Passed t eff [i] := by
  have hnone : ∀ q, (eff i).leaves q = fun _ => false := fun q => funext (hleaves q)
  refine .single hentry hothers (fun q => ?_) hhold hstart ?_ hcore halerts
  · rw [hnone, PortRecord.without_none, hport]
  · simp [hcells, hnone, allPorts, queueCells]

/-- An entry on which the pass has no effect. -/
theorem State.Passed.idle (hafter : (eff i).after = s.entry i) (hjoins : ∀ q, (eff i).joins q = none)
    (hleaves : ∀ q d, (eff i).leaves q d = false) (hcells : (eff i).cells = 0) (hunheld : (eff i).unheld = false) : s.Passed s eff [i] :=
  .single_of_none_leaves hleaves hafter.symm (fun _ _ => rfl) (fun q => by rw [hjoins]; exact (PortRecord.queued_nil _).symm)
    (by simp [hunheld]) rfl (by rw [hcells]; rfl) s.sameCore_refl s.sameAlerts_refl

/-- One entry, then others: what joined for the first stays in its queue when it leaves for none of the others. -/
theorem State.Passed.cons (hi : i ∉ l) (hstays : ∀ q, ∀ d ∈ ((eff i).joins q).toList, leavesFor eff l q d = false) (h : s.Passed t eff [i])
    (k : t.Passed u eff l) : s.Passed u eff (i :: l) where
  entry j := by
    rw [k.entry, h.entry]
    by_cases hji : j = i
    · subst hji; simp [hi]
    · simp [hji]
  port q := by
    simp only [k.port, h.port, leavesFor_singleton, List.filterMap_eq_flatMap_toList, List.flatMap_cons, List.flatMap_nil, List.append_nil,
      PortRecord.queued_without _ (hstays q), PortRecord.without_without, PortRecord.queued_append, leavesFor_cons eff i l]
  hold := by
    rw [k.hold, h.hold, List.filter_filter]
    refine List.filter_congr fun h _ => ?_
    by_cases hj : h.entry.index = i
    · simp [hj, hi]
    · simp [hj]
  start := k.start.trans h.start
  cells := by
    have hqueue : ∀ q, queueCells ((t.port q).egress.filter (leavesFor eff l q))
        + queueCells ((s.port q).egress.filter (leavesFor eff [i] q)) = queueCells ((s.port q).egress.filter (leavesFor eff (i :: l) q)) :=
      fun q => by
        rw [h.port, List.filterMap_eq_flatMap_toList, List.flatMap_singleton, PortRecord.filter_queued _ (hstays q),
          leavesFor_singleton, leavesFor_cons eff i l, ← queueCells_filter_or, Nat.add_comm]
        rfl
    rw [k.cells, h.cells]
    simp only [allPorts, List.map_cons, List.map_nil, List.sum_cons, List.sum_nil, ← hqueue]
    omega
  core := h.core.trans k.core
  alerts := h.alerts.trans k.alerts

/-- The pass over a list that holds each entry once. What a rule does for an entry it reads from that entry and the clock, which are those of a
reference state `s`. -/
theorem State.foldl_passed {rule : State → EntryIndex → State}
    (hrule : ∀ (v : State) i, v.entry i = s.entry i → v.clock = s.clock → v.Passed (rule v i) eff [i])
    (hstays : ∀ i j q, ∀ d ∈ ((eff i).joins q).toList, (eff j).leaves q d = false) (hl : l.Nodup) (v : State)
    (hentries : ∀ j ∈ l, v.entry j = s.entry j) (hclock : v.clock = s.clock) : v.Passed (l.foldl rule v) eff l := by
  induction l generalizing v with
  | nil => exact .nil v eff
  | cons i l ih =>
    obtain ⟨hi, hl⟩ := List.nodup_cons.1 hl
    have hfirst := hrule v i (hentries i List.mem_cons_self) hclock
    refine hfirst.cons hi (fun q d hd => ?_) (ih hl _ (fun j hj => ?_) ?_)
    · exact List.any_eq_false.2 fun j _ => by rw [hstays i j q d hd]; nofun
    · have hji : j ∉ [i] := fun h => hi (List.mem_singleton.1 h ▸ hj)
      rw [hfirst.entry, if_neg hji, hentries j (List.mem_cons_of_mem _ hj)]
    · obtain ⟨-, hsame, -⟩ := hfirst.core
      exact hsame.trans hclock

/-! ## How one exchange ends -/

/-- One descriptor on one port's queue, port by port. -/
theorem State.queuedOn.port_queued_toList {p : Port} {d : Descriptor} {joins : Port → Option Descriptor} (h : s.queuedOn t p [d])
    (hjoins : ∀ q, joins q = if q = p then some d else none) (q : Port) : t.port q = (s.port q).queued (joins q).toList := by
  obtain ⟨hself, hothers⟩ := h
  rw [hjoins]
  by_cases hq : q = p
  · subst hq; rw [if_pos rfl]; exact hself
  · rw [if_neg hq]; exact (hothers q hq).trans (PortRecord.queued_nil _).symm

/-- An exchange goes on, and a descriptor has joined a queue for it. -/
theorem State.GoesOn.passed {y : Exchange} {p : Port} {d : Descriptor} (h : s.GoesOn t i y p d)
    (hafter : (eff i).after = { s.entry i with exchange := some y }) (hjoins : ∀ q, (eff i).joins q = if q = p then some d else none)
    (hleaves : ∀ q d, (eff i).leaves q d = false) (hcells : (eff i).cells = 0) (hunheld : (eff i).unheld = false) : s.Passed t eff [i] := by
  obtain ⟨hhold, hstart⟩ := h.lists
  exact .single_of_none_leaves hleaves (h.entry.trans hafter.symm) h.others (h.queued.port_queued_toList hjoins) (by simpa [hunheld] using hhold)
    hstart (by rw [hcells]; exact h.cells) h.core h.alerts

/-- An exchange has ended with one descriptor, and its entry is free. -/
theorem State.EndsWith.passed {x : Exchange} {p : Port} {d : Descriptor} (h : s.EndsWith t i x p d)
    (hafter : (eff i).after = { s.entry i with exchange := none }) (hjoins : ∀ q, (eff i).joins q = if q = p then some d else none)
    (hleaves : ∀ q d, (eff i).leaves q d = false) (hcells : (eff i).cells = x.ownCells) (hunheld : (eff i).unheld = true) :
    s.Passed t eff [i] := by
  obtain ⟨hentry, hothers, hhold, hstart⟩ := h.freed
  exact .single_of_none_leaves hleaves (hentry.trans hafter.symm) hothers (h.queued.port_queued_toList hjoins)
    (by rw [if_pos hunheld]; exact hhold) hstart (by rw [hcells]; exact h.cells) h.core h.alerts

theorem State.freeEntry_sameAlerts (s : State) (i : EntryIndex) : s.sameAlerts (s.freeEntry i) :=
  ⟨State.freeEntry_alerts .., State.freeEntry_dropped ..⟩

/-- An entry in use is freed, no descriptor having joined or left a queue. -/
theorem State.freeEntry_passed {x : Exchange} (hx : (s.entry i).exchange = some x)
    (hafter : (eff i).after = { s.entry i with exchange := none }) (hjoins : ∀ q, (eff i).joins q = none)
    (hleaves : ∀ q d, (eff i).leaves q d = false) (hcells : (eff i).cells = (s.entry i).cells) (hunheld : (eff i).unheld = true) :
    s.Passed (s.freeEntry i) eff [i] := by
  obtain ⟨hentry, hothers, hhold, hstart⟩ := State.freeEntry_freed hx
  refine .single_of_none_leaves hleaves (hentry.trans hafter.symm) hothers (fun q => ?_) (by rw [if_pos hunheld]; exact hhold) hstart ?_
    (s.freeEntry_sameCore i) (s.freeEntry_sameAlerts i)
  · rw [hjoins, State.freeEntry_port]
    exact (PortRecord.queued_nil _).symm
  · rw [State.freeEntry_freeCells, hcells]

end Sys2Proof.Machine
end

section
/-! Teardown of a target port: the exchanges routed to it end (R130 to R132). -/

namespace Sys2Proof.Machine

variable {s t u v : State} {i : EntryIndex} {x : Exchange}

/-! ## The port's own part (R130, R131) -/

/-- The state once the port itself is torn down and its LINK_CHANGE posted, before what depends on it has ended. -/
def State.portTorn (s : State) (p : Port) (next : PortState) (why : LinkDetail) : State := (s.clearPort p next).postLink p why

theorem State.teardown_eq (s : State) (p : Port) (next : PortState) (why : LinkDetail) :
    s.teardown p next why = (s.portTorn p next why).endDependants p := rfl

theorem State.portTorn_onlyPort (s : State) (p : Port) (next : PortState) (why : LinkDetail) :
    s.OnlyPort (s.portTorn p next why) p ((s.port p).tornTo next) := ((s.setPort_onlyPort p _).release _).post _

theorem State.portTorn_freeCells (s : State) (p : Port) (next : PortState) (why : LinkDetail) :
    (s.portTorn p next why).freeCells = s.freeCells + (s.port p).tornCells :=
  (State.post_freeCells ..).trans (congrArg (· + (s.port p).tornCells) (State.setPort_freeCells ..))

theorem State.portTorn_posted (s : State) (p : Port) (next : PortState) (why : LinkDetail) :
    s.posted (s.portTorn p next why) { cause := .linkChange why, time := s.clock, link := some p } := by
  have halerts : s.sameAlerts (s.clearPort p next) := s.setPort_sameAlerts p _
  exact halerts.posted_postLink (State.setPort_clock ..) p why

theorem State.posted.trans_sameAlerts {a : Alert} (h : s.posted t a) (k : t.sameAlerts u) : s.posted u a := by
  obtain ⟨halerts, hdropped⟩ := k
  unfold State.posted at h ⊢
  rw [halerts, hdropped]
  exact h

/-! ## One entry (R132) -/

theorem Exchange.routedTo_iff (x : Exchange) (k : Target) :
    x.routedTo k = true ↔ ∃ g, x.routing = some g ∧ g.link = k ∧ x.parked = none := by
  cases hr : x.routing <;> simp [Exchange.routedTo, hr]

theorem State.endRouted_of_free (h : (s.entry i).exchange = none) (k : Target) : s.endRouted k i = s := by
  unfold State.endRouted
  rw [h]

theorem State.endRouted_of_other {k : Target} (hx : (s.entry i).exchange = some x) (h : x.routedTo k = false) : s.endRouted k i = s := by
  unfold State.endRouted
  rw [hx]
  dsimp only
  split
  · rfl
  · next g hg =>
    refine if_pos (Decidable.or_iff_not_imp_left.2 fun hlink => ?_)
    by_contra hparked
    have hrouted := (x.routedTo_iff k).2 ⟨g, hg, not_not.1 hlink, by simpa using hparked⟩
    rw [h] at hrouted
    cases hrouted

/-- An exchange routed to the link ends: with its STATUS, or without where it has closed. -/
theorem State.endRouted_of_routed {k : Target} (hx : (s.entry i).exchange = some x) (h : x.routedTo k = true) :
    s.endRouted k i = if x.state = .aborting ∧ x.closed = true then s.freeEntry i else s.closeAndFree i x codeLinkLost := by
  obtain ⟨g, hg, hlink, hparked⟩ := (x.routedTo_iff k).1 h
  unfold State.endRouted
  rw [hx]
  simp [hg, hlink, hparked]

/-- The exchange of the entry is routed to the link, and its target has not answered. -/
def State.endsWithLink (s : State) (k : Target) (i : EntryIndex) : Bool := (s.entry i).exchange.any fun x => x.routedTo k

/-- The STATUS C6h that closes it, where it has not closed. -/
def State.linkLostStatus (s : State) (k : Target) (i : EntryIndex) : Option Descriptor :=
  match (s.entry i).exchange with
  | some x => if x.routedTo k && !(x.state == .aborting && x.closed) then some (bridgeStatus (s.refOf i) x 0xC6#8) else none
  | none => none

/-- What the teardown of a target link does for an entry. -/
def State.routedEffect (s : State) (k : Target) (i : EntryIndex) : EntryEffect where
  after := if s.endsWithLink k i then { s.entry i with exchange := none } else s.entry i
  joins q := if q = .i then s.linkLostStatus k i else none
  leaves _ _ := false
  cells := if s.endsWithLink k i then (s.entry i).cells else 0
  unheld := s.endsWithLink k i

theorem State.linkLostStatus_of_stays {k : Target} (h : s.endsWithLink k i = false) : s.linkLostStatus k i = none := by
  unfold State.linkLostStatus
  split
  · next x hx =>
    have hother : x.routedTo k = false := by simpa [State.endsWithLink, hx] using h
    simp [hother]
  · rfl

theorem State.linkLostStatus_of_routed {k : Target} (hx : (s.entry i).exchange = some x) (h : x.routedTo k = true) :
    s.linkLostStatus k i = if x.state = .aborting ∧ x.closed = true then none else some (bridgeStatus (s.refOf i) x 0xC6#8) := by
  unfold State.linkLostStatus
  rw [hx]
  by_cases hclosed : x.state = .aborting ∧ x.closed = true
  · simp [hclosed]
  · simp only [h, Bool.true_and, if_neg hclosed]
    exact if_pos (by simpa [imp_iff_not_or] using hclosed)

theorem State.endRouted_passed (s : State) (k : Target) (v : State) (i : EntryIndex) (hv : v.entry i = s.entry i) :
    v.Passed (v.endRouted k i) (s.routedEffect k) [i] := by
  have href : v.refOf i = s.refOf i := by rw [State.refOf, hv]; rfl
  cases hends : s.endsWithLink k i with
  | false =>
    have hsame : v.endRouted k i = v := by
      cases hx : (v.entry i).exchange with
      | none => exact State.endRouted_of_free hx k
      | some x => exact State.endRouted_of_other hx (by simpa [State.endsWithLink, ← hv, hx] using hends)
    rw [hsame]
    exact .idle (by simp [State.routedEffect, hends, hv]) (by simp [State.routedEffect, State.linkLostStatus_of_stays hends])
      (fun _ _ => rfl) (by simp [State.routedEffect, hends]) hends
  | true =>
    obtain ⟨x, hx, hrouted⟩ := (Option.any_eq_true ..).1 hends
    have hxv : (v.entry i).exchange = some x := by rw [hv, hx]
    have hafter : (s.routedEffect k i).after = { v.entry i with exchange := none } := by simp [State.routedEffect, hends, hv]
    have hjoins : ∀ q, (s.routedEffect k i).joins q = if q = .i then
        (if x.state = .aborting ∧ x.closed = true then none else some (bridgeStatus (s.refOf i) x 0xC6#8)) else none := fun q => by
      rw [← State.linkLostStatus_of_routed hx hrouted]; rfl
    have hcells : (s.routedEffect k i).cells = (v.entry i).cells := by simp [State.routedEffect, hends, hv]
    rw [State.endRouted_of_routed hxv hrouted]
    by_cases hclosed : x.state = .aborting ∧ x.closed = true
    · rw [if_pos hclosed]
      exact State.freeEntry_passed hxv hafter (fun q => by simp [hjoins, hclosed]) (fun _ _ => rfl) hcells hends
    · rw [if_neg hclosed]
      refine (State.closeAndFree_endsWith hxv codeLinkLost).passed hafter (fun q => ?_) (fun _ _ => rfl)
        (hcells.trans (Entry.cells_some hxv)) hends
      rw [hjoins, if_neg hclosed, href]
      rfl

/-! ## The whole teardown (R130 to R132) -/

theorem State.endTargetLink_passed (s v : State) (k : Target) (hentries : s.sameEntries v) (hclock : v.clock = s.clock) :
    v.Passed (v.endTargetLink k) (s.routedEffect k) allEntries :=
  State.foldl_passed (fun w i hw _ => s.endRouted_passed k w i hw) (fun _ _ _ _ _ => rfl) (List.nodup_finRange 64) v
    (fun j _ => hentries j) hclock

theorem State.endDependants_target (s : State) (k : Target) : s.endDependants (targetPort k) = s.endTargetLink k := by cases k <;> rfl

theorem targetPort_ne_i (k : Target) : targetPort k ≠ .i := by cases k <;> nofun

theorem State.teardown_tornTarget (s : State) (k : Target) (next : PortState) (why : LinkDetail) :
    s.tornTarget (s.teardown (targetPort k) next why) k next why := by
  obtain ⟨htorn, hothers, hentries, ⟨hhold, hstart⟩, hcore⟩ := s.portTorn_onlyPort (targetPort k) next why
  have hcells := s.portTorn_freeCells (targetPort k) next why
  have hposted := s.portTorn_posted (targetPort k) next why
  rw [State.teardown_eq, State.endDependants_target]
  generalize s.portTorn (targetPort k) next why = v at *
  have hpass := s.endTargetLink_passed v k hentries hcore.2.1
  have hall : ∀ j : EntryIndex, j ∈ allEntries := List.mem_finRange
  have hnone : ∀ q, leavesFor (s.routedEffect k) allEntries q = fun _ => false :=
    fun q => funext fun d => List.any_eq_false.2 fun _ _ => nofun
  have hport : ∀ q, (v.endTargetLink k).port q = (v.port q).queued (allEntries.filterMap fun i => (s.routedEffect k i).joins q) :=
    fun q => by rw [hpass.port, hnone, PortRecord.without_none]
  have hstays : ∀ q, q ≠ .i → (v.endTargetLink k).port q = v.port q := fun q hq => by
    have hjoins : (allEntries.filterMap fun i => (s.routedEffect k i).joins q) = [] :=
      List.filterMap_eq_nil_iff.2 fun i _ => if_neg hq
    rw [hport, hjoins, PortRecord.queued_nil]
  refine ⟨fun i => ?_, ?_, ?_, fun q hI hk => ?_, ?_, ?_, ?_, hcore.trans hpass.core, hposted.trans_sameAlerts hpass.alerts⟩
  · rw [hpass.entry, if_pos (hall i)]; rfl
  · refine (hport .i).trans ?_
    rw [hothers .i (targetPort_ne_i k).symm]
    rfl
  · rw [hstays _ (targetPort_ne_i k), htorn]
  · rw [hstays q hI, hothers q hk]
  · rw [hpass.hold, hhold]
    simp only [hall, decide_true, Bool.true_and]
    rfl
  · rw [hpass.start, hstart]
  · have hqueues : (allPorts.map fun q => queueCells ((v.port q).egress.filter (leavesFor (s.routedEffect k) allEntries q))).sum = 0 := by
      simp [hnone, allPorts, queueCells]
    show _ = _ + (allEntries.map fun i => (s.routedEffect k i).cells).sum
    rw [hpass.cells, hcells, hqueues, Nat.add_zero]

/-- Settles O8: the port's own part, then the pass over the entries. -/
theorem targetTeardownEndsRouted : Obligations.TargetTeardownEndsRouted := fun s k hp hup =>
  ⟨_, exec_signalLoss_of_up hp hup, s.teardown_tornTarget k .down .signalLoss⟩

end Sys2Proof.Machine
end

section
/-! Teardown of port I, and a peer's restart of a port in UP (R128, R130, R131, R133, R134, R142; log entries 17 and 28). -/

namespace Sys2Proof.Machine

variable {s t u v : State} {p : Port} {i : EntryIndex} {x : Exchange} {g : Routing}

/-! ## One entry (R133) -/

theorem targetPort_beq (a b : Target) : (targetPort a == targetPort b) = (a == b) := by cases a <;> cases b <;> rfl

theorem Exchange.abandoned_iff (x : Exchange) : x.abandoned = true ↔ x.state ≠ .aborting ∧ ∃ g, x.targetActive = some g := by
  have hawaits : (x.routing.any Routing.commandSent && x.parked.isNone) = true ↔ x.awaitsTarget := by simp [Exchange.awaitsTarget]
  rw [Exchange.abandoned, Bool.and_assoc, Bool.and_eq_true, hawaits, ← x.isSome_targetActive_iff, Option.isSome_iff_exists, bne_iff_ne]

/-- The exchange is not in ABORTING, and its target has not seen it or has answered. -/
def Exchange.unseen (x : Exchange) : Bool := x.state != .aborting && !x.abandoned

theorem Exchange.unseen_iff (x : Exchange) : x.unseen = true ↔ x.state ≠ .aborting ∧ x.targetActive = none := by
  have habandoned : x.abandoned = false ↔ ¬(x.state ≠ .aborting ∧ ∃ g, x.targetActive = some g) := by
    rw [← x.abandoned_iff, Bool.not_eq_true]
  rw [Exchange.unseen, Bool.and_eq_true, bne_iff_ne, Bool.not_eq_true', habandoned]
  refine and_congr_right fun ha => ?_
  rw [Option.eq_none_iff_forall_not_mem]
  simp [ha]

/-- The entry holds an exchange whose target has not seen it or has answered. -/
def State.endsUnseen (s : State) (i : EntryIndex) : Bool := (s.entry i).exchange.any Exchange.unseen

/-- The exchange that a teardown of port I leaves of one that goes on under its abort. -/
def Exchange.unheard (x : Exchange) (clock : Clock) : Exchange :=
  { x with state := .aborting, closed := true, dataWaiting := 0, origin := some .initiator,
           deadline := some { kind := .grace, due := clock + 250#32 } }

/-- What the teardown of port I does for an entry. -/
def State.unheardEffect (s : State) (i : EntryIndex) : EntryEffect where
  after :=
    match (s.entry i).exchange with
    | none => s.entry i
    | some x =>
      if x.state = .aborting then { s.entry i with exchange := some { x with closed := true, dataWaiting := 0 } }
      else if x.abandoned then { s.entry i with exchange := some (x.unheard s.clock) }
      else { s.entry i with exchange := none }
  joins q :=
    if (s.entry i).exchange.any (fun x => x.abandoned && x.routing.any fun g => targetPort g.link == q) then some (bridgeAbort (s.refOf i))
    else none
  leaves q d :=
    (s.entry i).exchange.any (fun x => x.unseen && x.routing.any fun g => targetPort g.link == q) && d.requestOf (s.refOf i)
  cells := if s.endsUnseen i then (s.entry i).cells else 0
  unheld := s.endsUnseen i

theorem State.unheardEffect_after_of_free (h : (s.entry i).exchange = none) : (s.unheardEffect i).after = s.entry i := by
  simp [State.unheardEffect, h]

theorem State.unheardEffect_after_of_aborting (hx : (s.entry i).exchange = some x) (h : x.state = .aborting) :
    (s.unheardEffect i).after = { s.entry i with exchange := some { x with closed := true, dataWaiting := 0 } } := by
  simp [State.unheardEffect, hx, h]

theorem State.unheardEffect_after_of_abandoned (hx : (s.entry i).exchange = some x) (h : x.abandoned = true) :
    (s.unheardEffect i).after = { s.entry i with exchange := some (x.unheard s.clock) } := by
  obtain ⟨ha, -⟩ := x.abandoned_iff.1 h
  simp [State.unheardEffect, hx, ha, h]

theorem State.unheardEffect_after_of_unseen (hx : (s.entry i).exchange = some x) (h : x.unseen = true) :
    (s.unheardEffect i).after = { s.entry i with exchange := none } := by
  obtain ⟨ha, habandoned⟩ : x.state ≠ .aborting ∧ x.abandoned = false := by simpa [Exchange.unseen] using h
  simp [State.unheardEffect, hx, ha, habandoned]

/-- An ABORT is no REQUEST, so none leaves the queue it has joined. -/
theorem State.unheardEffect_stays (s : State) (i j : EntryIndex) (q : Port) :
    ∀ d ∈ ((s.unheardEffect i).joins q).toList, (s.unheardEffect j).leaves q d = false := by
  intro d hd
  have habort : d = bridgeAbort (s.refOf i) := by
    simp only [State.unheardEffect, Option.mem_toList] at hd
    split at hd
    · exact (Option.some.inj hd).symm
    · cases hd
  subst habort
  exact Bool.and_false _

/-- An exchange in ABORTING stays there, closed, and its DATA have gone. -/
theorem State.endUnheard_of_aborting (hx : (s.entry i).exchange = some x) (h : x.state = .aborting) :
    s.endUnheard i = s.setExchange i { x with closed := true, dataWaiting := 0 } := by
  unfold State.endUnheard
  rw [hx]
  exact if_pos h

theorem State.endUnheard_of_active (hx : (s.entry i).exchange = some x) (h : x.state ≠ .aborting) (hg : x.targetActive = some g) :
    s.endUnheard i = (s.setExchange i (x.unheard s.clock)).enqueue (targetPort g.link) (bridgeAbort (s.refOf i)) := by
  unfold State.endUnheard
  rw [hx]
  dsimp only
  rw [if_neg h, hg]
  rfl

theorem State.endUnheard_of_unseen (hx : (s.entry i).exchange = some x) (h : x.state ≠ .aborting) (hg : x.targetActive = none) :
    s.endUnheard i = (s.withdrawUnseen i x).freeEntry i := by
  unfold State.endUnheard
  rw [hx]
  dsimp only
  rw [if_neg h, hg]

/-- The cells of what one target's queue loses, reckoned over all ports. -/
theorem State.sum_queueCells_of_target (s : State) (k : Target) (h : Descriptor → Bool) :
    (allPorts.map fun q => queueCells ((s.port q).egress.filter fun d => targetPort k == q && h d)).sum
      = queueCells ((s.port (targetPort k)).egress.filter h) := by
  cases k <;> simp [allPorts, targetPort, queueCells, beq_eq_decide]

/-- An exchange leaves the bridge with no frame: its REQUEST leaves the target's queue, and its entry is free. -/
theorem State.withdrawUnseen_freeEntry_passed {eff : EntryIndex → EntryEffect} (hx : (s.entry i).exchange = some x)
    (hafter : (eff i).after = { s.entry i with exchange := none }) (hjoins : ∀ q, (eff i).joins q = none)
    (hleaves : ∀ q d, (eff i).leaves q d = (x.routing.any (fun g => targetPort g.link == q) && d.requestOf (s.refOf i)))
    (hcells : (eff i).cells = (s.entry i).cells) (hunheld : (eff i).unheld = true) :
    s.Passed ((s.withdrawUnseen i x).freeEntry i) eff [i] := by
  have hxw : ((s.withdrawUnseen i x).entry i).exchange = some x := by rw [State.withdrawUnseen_entry, hx]
  obtain ⟨hentry, hothers, hhold, hstart⟩ := State.freeEntry_freed hxw
  obtain ⟨hI, hT⟩ := s.withdrawUnseen_port i x
  have hleaves' : ∀ q, (eff i).leaves q = fun d => x.routing.any (fun g => targetPort g.link == q) && d.requestOf (s.refOf i) :=
    fun q => funext (hleaves q)
  have htarget : ∀ k, (s.withdrawUnseen i x).port (targetPort k) = (s.port (targetPort k)).without ((eff i).leaves (targetPort k)) := fun k => by
    rw [hT, hleaves']
    simp only [targetPort_beq]
    cases x.routing.any fun g => g.link == k with
    | true => rfl
    | false => exact (PortRecord.without_none _).symm
  have hport : ∀ q, (s.withdrawUnseen i x).port q = (s.port q).without ((eff i).leaves q) := by
    have hnotI : (x.routing.any fun g => targetPort g.link == .i) = false := by
      cases x.routing with
      | none => rfl
      | some g => exact beq_eq_false_iff_ne.2 (targetPort_ne_i g.link)
    intro q
    cases q with
    | i => rw [hI, hleaves', hnotI]; exact (PortRecord.without_none _).symm
    | t0 => exact htarget .t0
    | t1 => exact htarget .t1
  refine .single (hentry.trans ?_) (fun j hj => (hothers j hj).trans (State.withdrawUnseen_entry ..)) (fun q => ?_) ?_ ?_ ?_
    ((s.withdrawUnseen_sameCore i x).trans (State.freeEntry_sameCore ..))
    ((s.withdrawUnseen_sameAlerts i x).trans (State.freeEntry_sameAlerts ..))
  · rw [State.withdrawUnseen_entry, hafter]
  · rw [State.freeEntry_port, hport, hjoins]
    exact (PortRecord.queued_nil _).symm
  · rw [if_pos hunheld, ← State.withdrawUnseen_holdQueue s i x]
    exact hhold
  · rw [hstart, State.withdrawUnseen_startList]
  · have hwithdrawn := s.withdrawUnseen_freeCells i x
    have hqueues : s.unseenCells i x = x.ownCells + (allPorts.map fun q => queueCells ((s.port q).egress.filter ((eff i).leaves q))).sum := by
      simp only [State.unseenCells, hleaves']
      cases x.routing with
      | none => simp [allPorts, queueCells]
      | some g => exact congrArg (x.ownCells + ·) (s.sum_queueCells_of_target g.link _).symm
    rw [State.freeEntry_freeCells, Entry.cells_some hxw, hcells, Entry.cells_some hx]
    omega

theorem State.endUnheard_passed_of_aborting (hv : v.entry i = s.entry i) (hx : (s.entry i).exchange = some x) (ha : x.state = .aborting) :
    v.Passed (v.endUnheard i) s.unheardEffect [i] := by
  have habandoned : x.abandoned = false := by simp [Exchange.abandoned, ha]
  have hunseen : x.unseen = false := by simp [Exchange.unseen, ha]
  have hends : s.endsUnseen i = false := by simp [State.endsUnseen, hx, hunseen]
  rw [State.endUnheard_of_aborting (by rw [hv, hx]) ha]
  refine .single_of_none_leaves (by simp [State.unheardEffect, hx, hunseen]) ?_ (fun j hj => State.setExchange_entry_ne _ _ hj)
    (fun q => ?_) (by simp [State.unheardEffect, hends]) rfl (by simp [State.unheardEffect, hends]) (State.setExchange_sameCore ..) ⟨rfl, rfl⟩
  · rw [State.setExchange_entry_self, hv, State.unheardEffect_after_of_aborting hx ha]
  · have hjoins : (s.unheardEffect i).joins q = none := by simp [State.unheardEffect, hx, habandoned]
    rw [hjoins, State.setExchange_port]
    exact (PortRecord.queued_nil _).symm

theorem State.endUnheard_passed_of_active (hv : v.entry i = s.entry i) (hclock : v.clock = s.clock) (hx : (s.entry i).exchange = some x)
    (ha : x.state ≠ .aborting) (hg : x.targetActive = some g) : v.Passed (v.endUnheard i) s.unheardEffect [i] := by
  have habandoned : x.abandoned = true := x.abandoned_iff.2 ⟨ha, g, hg⟩
  have hunseen : x.unseen = false := by simp [Exchange.unseen, habandoned]
  have hends : s.endsUnseen i = false := by simp [State.endsUnseen, hx, hunseen]
  have href : v.refOf i = s.refOf i := by rw [State.refOf, hv]; rfl
  obtain ⟨hrouting, -⟩ := (x.targetActive_eq g).1 hg
  rw [State.endUnheard_of_active (by rw [hv, hx]) ha hg, href, hclock]
  refine (v.setExchange_enqueue_goesOn (.inr rfl) i _).passed (by rw [hv, State.unheardEffect_after_of_abandoned hx habandoned])
    (fun q => ?_) (by simp [State.unheardEffect, hx, hunseen]) (by simp [State.unheardEffect, hends]) hends
  have hjoins : (s.unheardEffect i).joins q = if targetPort g.link = q then some (bridgeAbort (s.refOf i)) else none := by
    simp [State.unheardEffect, hx, habandoned, hrouting]
  rw [hjoins]
  simp only [eq_comm]

theorem State.endUnheard_passed_of_unseen (hv : v.entry i = s.entry i) (hx : (s.entry i).exchange = some x) (ha : x.state ≠ .aborting)
    (hg : x.targetActive = none) : v.Passed (v.endUnheard i) s.unheardEffect [i] := by
  have hunseen : x.unseen = true := x.unseen_iff.2 ⟨ha, hg⟩
  have habandoned : x.abandoned = false := by simpa [Exchange.unseen, ha] using hunseen
  have hends : s.endsUnseen i = true := by simp [State.endsUnseen, hx, hunseen]
  have href : v.refOf i = s.refOf i := by rw [State.refOf, hv]; rfl
  have hxv : (v.entry i).exchange = some x := by rw [hv, hx]
  rw [State.endUnheard_of_unseen hxv ha hg]
  exact State.withdrawUnseen_freeEntry_passed hxv (by rw [hv, State.unheardEffect_after_of_unseen hx hunseen])
    (by simp [State.unheardEffect, hx, habandoned]) (by simp [State.unheardEffect, hx, hunseen, href])
    (by simp [State.unheardEffect, hends, hv]) hends

/-- The teardown's step on one entry, case by case (R133). -/
theorem State.endUnheard_passed (s v : State) (i : EntryIndex) (hv : v.entry i = s.entry i) (hclock : v.clock = s.clock) :
    v.Passed (v.endUnheard i) s.unheardEffect [i] := by
  cases hx : (s.entry i).exchange with
  | none =>
    have hsame : v.endUnheard i = v := by unfold State.endUnheard; rw [hv, hx]
    rw [hsame]
    exact .idle ((State.unheardEffect_after_of_free hx).trans hv.symm) (by simp [State.unheardEffect, hx]) (by simp [State.unheardEffect, hx])
      (by simp [State.unheardEffect, State.endsUnseen, hx]) (by simp [State.unheardEffect, State.endsUnseen, hx])
  | some x =>
    by_cases ha : x.state = .aborting
    · exact State.endUnheard_passed_of_aborting hv hx ha
    · cases hg : x.targetActive with
      | some g => exact State.endUnheard_passed_of_active hv hclock hx ha hg
      | none => exact State.endUnheard_passed_of_unseen hv hx ha hg

/-! ## The end of the lease (R134, R142) -/

/-- Where port I's queue is empty, the end of a lease touches the lease, the batch and the alerts alone. -/
theorem State.endLease_of_empty_queue (h : s.portI.egress = []) (why : LeaseEnd) :
    ∃ b a n, s.endLease why = { s with lease := none, batch := b, alerts := a, dropped := n }
      ∧ (s.lease = none → b = s.batch ∧ a = s.alerts ∧ n = s.dropped)
      ∧ ∀ l, s.lease = some l → b = none
        ∧ ({ s with dropped := min 65535 (s.dropped + (s.batch.map Batch.carried).getD 0) } : State).posted (s.endLease why)
            { cause := .leaseEnded why, time := s.clock, initiator := some l.owner } := by
  cases hl : s.lease with
  | none =>
    refine ⟨s.batch, s.alerts, s.dropped, ?_, fun _ => ⟨rfl, rfl, rfl⟩, nofun⟩
    have hsame : s.endLease why = s := by unfold State.endLease; rw [hl]
    rw [hsame, ← hl]
  | some l =>
    obtain ⟨a, n, heq, hposted⟩ := State.endLease_leaseEnded hl why
    refine ⟨none, a, n, ?_, nofun, fun m hm => ⟨rfl, Option.some.inj hm ▸ hposted⟩⟩
    have hportI : ({ s.portI with egress := s.portI.egress.filter fun d => !d.isAlert } : PortRecord) = s.portI := by rw [h, List.filter_nil, ← h]
    rw [heq, hportI]

/-! ## The whole teardown (R130, R131, R133, R134) -/

theorem State.unheardEffect_joins_i (s : State) (i : EntryIndex) : (s.unheardEffect i).joins .i = none := by
  refine if_neg fun h => ?_
  obtain ⟨x, -, hx⟩ := (Option.any_eq_true ..).1 h
  obtain ⟨g, -, hg⟩ := (Option.any_eq_true ..).1 (Bool.and_eq_true _ _ ▸ hx).2
  exact targetPort_ne_i g.link (beq_iff_eq.1 hg)

/-- The REQUESTs that leave a target's queue. -/
def State.unseenRequest (s : State) (k : Target) (d : Descriptor) : Bool :=
  allEntries.any fun i =>
    (s.entry i).exchange.any (fun x => x.unseen && x.routing.any fun g => g.link == k) && d.requestOf (s.refOf i)

theorem State.leavesFor_unheardEffect (s : State) (k : Target) :
    leavesFor s.unheardEffect allEntries (targetPort k) = s.unseenRequest k := by
  funext d
  simp only [leavesFor, State.unheardEffect, State.unseenRequest, targetPort_beq]

/-- The ABORT that joins a target's queue for an entry. -/
theorem State.unheardEffect_joins_target (s : State) (k : Target) (i : EntryIndex) :
    (s.unheardEffect i).joins (targetPort k) =
      if (s.entry i).exchange.any (fun x => x.abandoned && x.routing.any fun g => g.link == k) then some (bridgeAbort (s.refOf i)) else none := by
  simp only [State.unheardEffect, targetPort_beq]

/-- Port I is torn down with its LINK_CHANGE, and the exchanges have ended or go on unheard; the hold queue, the start list and the lease still
stand. -/
structure State.Unheard (s w : State) (next : PortState) (why : LinkDetail) : Prop where
  entry : ∀ i, w.entry i = (s.unheardEffect i).after
  portI : w.portI = s.portI.tornTo next
  target : ∀ k, w.port (targetPort k)
    = ((s.port (targetPort k)).without (s.unseenRequest k)).queued (allEntries.filterMap fun i =>
        if (s.entry i).exchange.any (fun x => x.abandoned && x.routing.any fun g => g.link == k) then some (bridgeAbort (s.refOf i)) else none)
  freeCells : w.freeCells = s.freeCells + s.portI.tornCells + (allEntries.map fun i => if s.endsUnseen i then (s.entry i).cells else 0).sum
    + queueCells (s.portT0.egress.filter (s.unseenRequest .t0)) + queueCells (s.portT1.egress.filter (s.unseenRequest .t1))
  core : s.sameCore w
  posted : s.posted w { cause := .linkChange why, time := s.clock, link := some .i }

theorem State.foldl_endUnheard_unheard (s : State) (next : PortState) (why : LinkDetail) :
    s.Unheard (allEntries.foldl State.endUnheard (s.portTorn .i next why)) next why := by
  obtain ⟨htorn, hothers, hentries, -, hcore⟩ := s.portTorn_onlyPort .i next why
  have hcells := s.portTorn_freeCells .i next why
  have hposted := s.portTorn_posted .i next why
  generalize s.portTorn .i next why = v at *
  have hpass : v.Passed (allEntries.foldl State.endUnheard v) s.unheardEffect allEntries :=
    State.foldl_passed (fun w i => s.endUnheard_passed w i) s.unheardEffect_stays (List.nodup_finRange 64) v (fun j _ => hentries j) hcore.2.1
  generalize allEntries.foldl State.endUnheard v = w at hpass
  refine ⟨fun j => ?_, ?_, fun k => ?_, ?_, hcore.trans hpass.core, hposted.trans_sameAlerts hpass.alerts⟩
  · rw [hpass.entry, if_pos (show j ∈ allEntries from List.mem_finRange j)]
  · have hjoins : (allEntries.filterMap fun i => (s.unheardEffect i).joins .i) = [] :=
      List.filterMap_eq_nil_iff.2 fun i _ => s.unheardEffect_joins_i i
    refine (hpass.port .i).trans ?_
    rw [hjoins, htorn, PortRecord.queued_nil]
    rfl
  · rw [hpass.port, State.leavesFor_unheardEffect, hothers _ (targetPort_ne_i k)]
    simp only [State.unheardEffect_joins_target]
  · have hqueues : (allPorts.map fun q => queueCells ((v.port q).egress.filter (leavesFor s.unheardEffect allEntries q))).sum
        = queueCells (s.portT0.egress.filter (s.unseenRequest .t0)) + queueCells (s.portT1.egress.filter (s.unseenRequest .t1)) := by
      rw [← State.leavesFor_unheardEffect, ← State.leavesFor_unheardEffect]
      simp only [allPorts, List.map_cons, List.map_nil, List.sum_cons, List.sum_nil, htorn, hothers .t0 nofun, hothers .t1 nofun,
        Nat.add_zero]
      exact Nat.zero_add _
    rw [hpass.cells, hcells, hqueues]
    exact (Nat.add_assoc ..).symm

/-- The lists are emptied, no warm reset is pending, and the lease ends. -/
theorem State.Unheard.tornInitiator {w : State} {next : PortState} {why : LinkDetail} (h : s.Unheard w next why) :
    s.tornInitiator (State.endLease { w with holdQueue := [], startList := [], warmPending := false } .linkLost) next why := by
  obtain ⟨hpin, hclock, hpolicy, hlease, -, hbatch, hseq, hrot, hcount, hpending⟩ := h.core
  obtain ⟨b, a, n, heq, hidle, hended⟩ := State.endLease_of_empty_queue
    (s := { w with holdQueue := [], startList := [], warmPending := false }) (congrArg PortRecord.egress h.portI) .linkLost
  generalize State.endLease _ _ = u at heq hended ⊢
  subst heq
  refine ⟨fun i hi => (h.entry i).trans (State.unheardEffect_after_of_free hi), fun i x hx =>
      ⟨fun ha => (h.entry i).trans (State.unheardEffect_after_of_aborting hx ha),
       fun ha => (h.entry i).trans (State.unheardEffect_after_of_abandoned hx ha),
       fun hunseen => (h.entry i).trans (State.unheardEffect_after_of_unseen hx hunseen)⟩,
    h.portI, fun k => ?_, h.freeCells, rfl, rfl, rfl, rfl, hpolicy, hpin, hclock, hseq, hrot, hcount, hpending, fun hnone => ?_, fun l hsome => ?_⟩
  · cases k with
    | t0 => exact h.target .t0
    | t1 => exact h.target .t1
  · obtain ⟨rfl, rfl, rfl⟩ := hidle (hlease.trans hnone)
    exact ⟨h.posted, hbatch⟩
  · obtain ⟨rfl, hlast⟩ := hended l (hlease.trans hsome)
    refine ⟨rfl, w, h.posted, ?_⟩
    rw [← hbatch, ← hclock]
    exact hlast

theorem State.teardown_tornInitiator (s : State) (next : PortState) (why : LinkDetail) : s.tornInitiator (s.teardown .i next why) next why :=
  (s.foldl_endUnheard_unheard next why).tornInitiator

/-- Settles O9: the port's own part, the pass over the entries, then the lists and the lease. -/
theorem initiatorTeardownEndsAll : Obligations.InitiatorTeardownEndsAll := fun s hp hup =>
  ⟨_, exec_signalLoss_of_up hp hup, s.teardown_tornInitiator .down .signalLoss⟩

/-! ## A peer's restart (R128, R130) -/

theorem State.teardown_torn (s : State) (p : Port) (next : PortState) (why : LinkDetail) : s.torn (s.teardown p next why) p next why := by
  cases p with
  | i => exact s.teardown_tornInitiator next why
  | t0 => exact s.teardown_tornTarget .t0 next why
  | t1 => exact s.teardown_tornTarget .t1 next why

/-- A torn port is in the state the teardown names, with nothing held for its peer, at the clock of the event. -/
theorem State.torn.port_clock {next : PortState} {why : LinkDetail} (h : s.torn u p next why) :
    u.port p = (s.port p).tornTo next ∧ u.clock = s.clock := by
  cases p with
  | i =>
    obtain ⟨-, -, hport, -, -, -, -, -, -, -, -, hclock, -⟩ := h
    exact ⟨hport, hclock⟩
  | t0 =>
    obtain ⟨-, -, hport, -, -, -, -, ⟨-, hclock, -⟩, -⟩ := h
    exact ⟨hport, hclock⟩
  | t1 =>
    obtain ⟨-, -, hport, -, -, -, -, ⟨-, hclock, -⟩, -⟩ := h
    exact ⟨hport, hclock⟩

theorem State.sameAlerts.trans_posted {a : Alert} (h : s.sameAlerts t) (k : t.posted u a) : s.posted u a := by
  obtain ⟨halerts, hdropped⟩ := h
  unfold State.posted at k ⊢
  rw [← halerts, ← hdropped]
  exact k

theorem State.launchInit_clock (s : State) (p : Port) : (s.launchInit p).clock = s.clock := State.setPort_clock ..

/-- From a port at rest, an INIT sent and a valid one received bring it UP with the offered credit announced and its cells reserved. -/
theorem State.launchInit_enterUp (hrest : (s.port p).tornTo .training = s.port p) (f : List Byte) :
    let u := (s.launchInit p).enterUp p f
    s.OnlyPort u p { s.port p with
        state := .up, initFailures := 0, peerSegment := some (64 * initSegmentUnits f), peerCredit := initCredit f, announced := s.offer p,
        wire := (s.port p).wire ++ [initBytes p (s.offer p)] }
      ∧ u.freeCells + 9 * s.offer p = s.freeCells
      ∧ s.posted u { cause := .linkChange .up, time := s.clock, link := some p } := by
  have hlaunch := s.launchInit_onlyPort p
  have hroom := s.offer_cells_le p
  obtain ⟨hup, hcells, hposted⟩ := (s.launchInit p).enterUp_onlyPort p f
  rw [hlaunch.port, ← hrest] at hup
  rw [State.launchInit_clock] at hposted
  refine ⟨?_, ?_, (s.launchInit_sameAlerts p).trans_posted hposted⟩
  · rw [← hrest]
    simpa [PortRecord.tornTo] using hlaunch.trans hup
  · rw [hcells, State.launchInit_freeCells]
    omega

/-- From a port at rest, an INIT sent and a faulty one received leave it FAILED, with the offered credit's cells free again. -/
theorem State.launchInit_leaveInitWait (hrest : (s.port p).tornTo .training = s.port p) (d : LinkDetail) :
    let u := ((s.launchInit p).leaveInitWait p .failed ((s.launchInit p).port p).initFailures).postLink p d
    s.OnlyPort u p { s.port p with state := .failed, wire := (s.port p).wire ++ [initBytes p (s.offer p)] }
      ∧ u.freeCells = s.freeCells
      ∧ s.posted u { cause := .linkChange d, time := s.clock, link := some p } := by
  have hlaunch := s.launchInit_onlyPort p
  have hroom := s.offer_cells_le p
  obtain ⟨hfailed, hcells, hposted⟩ := (s.launchInit p).leaveInitWait_postLink p .failed ((s.launchInit p).port p).initFailures d
  rw [State.launchInit_clock] at hposted
  refine ⟨?_, ?_, (s.launchInit_sameAlerts p).trans_posted hposted⟩
  · have hfailures : ((s.launchInit p).port p).initFailures = (s.port p).initFailures := by rw [hlaunch.port]
    have hrecord := hlaunch.trans hfailed
    rw [hlaunch.port, ← hrest] at hrecord
    rw [← hrest]
    simpa [PortRecord.tornTo, hfailures] using hrecord
  · rw [hcells, State.launchInit_freeCells, hlaunch.port]
    exact Nat.sub_add_cancel hroom

/-- Settles O10: the INIT is sent from the torn state, and the judgement either announces the credit reserved for it or gives it back. -/
theorem peerRestartBringsUpAgain : Obligations.PeerRestartBringsUpAgain := by
  intro s p hp hup
  have htorn := s.teardown_torn p .training .peerRestart
  have hexec := fun f => exec_peerRestart (f := f) hp hup
  generalize s.teardown p .training .peerRestart = w at htorn hexec
  obtain ⟨hport, hclock⟩ := htorn.port_clock
  have hrest : (w.port p).tornTo .training = w.port p := by rw [hport]; rfl
  refine ⟨fun b1 b2 b3 seg credit rev hb hlow hhigh => ?_, fun f d hf hfaulty => ?_⟩
  · obtain ⟨⟨hrecord, hothers, hentries, hlists, hcore⟩, hcells, hposted⟩ :=
      State.launchInit_enterUp hrest [0x08#8, b1, b2, b3, if p = .i then 0x01#8 else 0x02#8, seg, credit, rev]
    refine ⟨w, _, w.offer p, htorn, w.offer_eq p, ?_, hrecord, hcells, hothers, hentries, hlists, hcore, hclock ▸ hposted⟩
    rw [hexec _ (isInitFrame_of_kind rfl), State.judgeInit_of_valid (initFault_of_valid p hb hlow hhigh)]
  · obtain ⟨⟨hrecord, hothers, hentries, hlists, hcore⟩, hcells, hposted⟩ := State.launchInit_leaveInitWait hrest d
    refine ⟨w, _, w.offer p, htorn, w.offer_eq p, ?_, hrecord, hcells, hothers, hentries, hlists, hcore, hclock ▸ hposted⟩
    rw [hexec f (isInitFrame_of_kind hf), State.judgeInit_of_fault (initFault_of_faulty hfaulty)]

end Sys2Proof.Machine
end

section
/-! The expiries of the lease, resend and resync deadlines (R142, R156, R160, R162). -/

namespace Sys2Proof.Machine

section
variable {s : State}

/-! ## The lease deadline (R142) -/

theorem exec_leaseExpiry_of_reached {l : Lease} (hp : s.resetPin = false) (hl : s.lease = some l) (hd : reached s.clock l.deadline = true) :
    exec .leaseExpiry s = .next (s.endLease .expired).settle := by
  have hevent : leaseExpiryEvent s = some (s.endLease .expired) := by
    rw [leaseExpiryEvent, hl]
    exact if_pos hd
  exact event_occurs hp hevent

/-! ## The resend deadline (R160) -/

theorem exec_resendDeadlineExpiry_of_reached {b : Batch} {due : Clock} (hp : s.resetPin = false) (hb : s.batch = some b)
    (hr : b.resend = some due) (hd : reached s.clock due = true) : exec .resendDeadlineExpiry s = .next (s.resendBatch b).settle := by
  have hevent : resendExpiryEvent s = some (s.resendBatch b) := by
    simp only [resendExpiryEvent, hb, hr]
    exact if_pos hd
  exact event_occurs hp hevent

/-- A descriptor without cells changes the port's record alone, whether the port keeps it or not (R120, R126). -/
theorem State.enqueue_of_no_cells (s : State) (p : Port) {d : Descriptor} (h : d.cells = 0) :
    s.enqueue p d = s.setPort p ((s.port p).queued [d]) := by
  cases hup : s.isUp p with
  | true => rw [State.enqueue_of_up hup, PortRecord.queued, if_pos ((s.isUp_iff p).1 hup)]
  | false =>
    have hdown : ¬(s.port p).state = .up := fun hstate => Bool.false_ne_true (hup.symm.trans ((s.isUp_iff p).2 hstate))
    rw [State.enqueue_of_not_up hup, h, PortRecord.queued, if_neg hdown]
    cases p <;> rfl

theorem State.resendBatch_eq (s : State) (b : Batch) :
    s.resendBatch b = { s with batch := some { b with resend := none }, portI := s.portI.queued [{ content := .alert }] } :=
  State.enqueue_of_no_cells _ .i rfl

/-! ## The completion of resync (R156) -/

theorem exec_resyncCompletion_of_reached {due : Clock} (hp : s.resetPin = false) (hr : s.resync = some due)
    (hd : reached s.clock due = true) : exec .resyncCompletion s = .next s.completeResync.settle := by
  have hevent : resyncCompletionEvent s = some s.completeResync := by
    rw [resyncCompletionEvent, hr]
    exact if_pos hd
  exact event_occurs hp hevent

/-- An alert reaches the alert queue and the dropped count alone. -/
theorem State.post_eq (s : State) (a : Alert) : s.post a = { s with alerts := (s.post a).alerts, dropped := (s.post a).dropped } := by
  unfold State.post
  split <;> rfl

/-- With the active bank's records in the staging bank, both banks hold them, whichever is active. -/
theorem State.setStaging_activeBank (s : State) :
    s.setStaging s.activeBank = { s with bankA := s.activeBank, bankB := s.activeBank } := by
  have hbank : s.activeBank = s.bank s.active := rfl
  rw [hbank]
  unfold State.setStaging
  split <;> next h => rw [h]; rfl

/-- The state whose resync is over, before COMMIT_DONE is posted. -/
def State.resynced (s : State) : State := { s with bankA := s.activeBank, bankB := s.activeBank, resync := none, dirty := false }

theorem State.completeResync_eq (s : State) :
    s.completeResync = s.resynced.post { cause := .commitDone, time := s.clock, generation := some s.generation } := by
  rw [State.completeResync, State.setStaging_activeBank]
  rfl

end

/-! ## The statement -/

/-- Settles O37: each deadline that the clock has reached brings its event about, and the event's state is written out. -/
theorem leaseResendAndResyncDeadlinesExpire : Obligations.LeaseResendAndResyncDeadlinesExpire := by
  refine ⟨fun s l hp hl hd => ?_, fun s b d hp hb hr hd => ?_, fun s d hp hr hd => ?_⟩
  · exact ⟨_, exec_leaseExpiry_of_reached hp hl (reached_eq_true_iff.2 hd), State.endLease_leaseEnded hl .expired⟩
  · rw [exec_resendDeadlineExpiry_of_reached hp hb hr (reached_eq_true_iff.2 hd), State.resendBatch_eq]
  · refine ⟨s.completeResync, s.completeResync.alerts, s.completeResync.dropped,
      exec_resyncCompletion_of_reached hp hr (reached_eq_true_iff.2 hd), ?_, ?_⟩
    · rw [State.completeResync_eq]
      exact State.post_eq ..
    · rw [State.completeResync_eq]
      exact State.sameAlerts.posted_post (s := s) (t := s.resynced) ⟨rfl, rfl⟩ _

end Sys2Proof.Machine
end

section
/-! How a performance concludes: its answer in runs, or its closing STATUS at once, with what follows that STATUS (R139, R140, R142, R147, R154,
R162; log entry 9). -/

namespace Sys2Proof.Machine

section
variable {i : EntryIndex} {x : Exchange} {r : OpResult} {w : State}

/-! ## The request and the body are released (R140; log entry 9) -/

/-- The exchange without its stored request and its body chain. -/
def Exchange.bare (x : Exchange) : Exchange := { x with storedRequest := none, bodyFrames := [] }

theorem Exchange.bare_ownCells_le (x : Exchange) : x.bare.ownCells ≤ x.ownCells := by
  simp only [Exchange.bare, Exchange.ownCells, List.map_nil, List.sum_nil]
  omega

theorem Exchange.bare_ownCells_of_plain (hk : x.parked = none) (hn : x.snapshot = none) : x.bare.ownCells = 0 := by
  simp [Exchange.bare, Exchange.ownCells, hk, hn]

/-- An exchange that gives its request and body back first ends with all of its cells free. -/
theorem State.EndsWith.of_release {s t : State} {y : Exchange} {p : Port} {d : Descriptor} {n : Nat} (h : (s.release n).EndsWith t i y p d)
    (hn : n + y.ownCells = x.ownCells) : s.EndsWith t i x p d where
  freed := h.freed
  core := h.core
  alerts := h.alerts
  cells := by rw [h.cells, State.release_freeCells, Nat.add_assoc, hn]
  queued := ⟨h.queued.1.trans (by rw [State.release_port]), fun q hq => (h.queued.2 q hq).trans (State.release_port ..)⟩

/-! ## No byte of the answer is written (R140) -/

/-- The closing STATUS of a performance of which no answer is written: the request and the body are released, and the exchange closes. -/
def State.concludedAtOnce (w : State) (i : EntryIndex) (x : Exchange) (code : Byte) (mark : Bool) : State :=
  ((w.release (x.ownCells - x.bare.ownCells)).setExchange i x.bare).closeManagement i x.bare code mark

theorem State.concludedAtOnce_endsWith (w : State) (i : EntryIndex) (x : Exchange) (code : Byte) (mark : Bool) :
    w.EndsWith (w.concludedAtOnce i x code mark) i x .i { bridgeStatus (w.refOf i) x code with warmMark := mark } := by
  have href : ((w.release (x.ownCells - x.bare.ownCells)).setExchange i x.bare).refOf i = w.refOf i := State.setExchange_refOf ..
  rw [← href]
  refine State.EndsWith.of_release (y := x.bare) (State.EndsWith.of_setExchange (y := x.bare) ?_) (Nat.sub_add_cancel x.bare_ownCells_le)
  exact State.enqueue_freeEntry_endsWith (x := x.bare) (by rw [State.setExchange_entry_self]) (.inr rfl)

section
variable (h : answerAmount r.state x r.answer = 0)
include h

theorem conclude_of_nothing (ha : r.after = .nothing) : State.conclude i x r = r.state.concludedAtOnce i x r.code false := by
  simp only [State.conclude, h, ha]
  rfl

theorem conclude_of_markWarmReset (ha : r.after = .markWarmReset) :
    State.conclude i x r = { r.state.concludedAtOnce i x r.code (!r.state.warmPending) with warmPending := true } := by
  simp only [State.conclude, h, ha]
  rfl

theorem conclude_of_revokeLease (ha : r.after = .revokeLease) :
    State.conclude i x r = (r.state.concludedAtOnce i x r.code false).endLease .revoked := by
  simp only [State.conclude, h, ha]
  rfl

end

theorem State.endLease_of_free (h : w.lease = none) (why : LeaseEnd) : w.endLease why = w := by
  rw [State.endLease, h]

/-! ## An answer is written (R140) -/

/-- The exchange while the runs of its answer wait (R140). -/
def Exchange.answering (x : Exchange) (code : Byte) (length runs : Nat) : Exchange :=
  { x.bare with answer := some { code := code, length := length }, dataWaiting := x.dataWaiting + runs }

/-- The answer's cells have been taken, and those of the request and the body given back (log entry 9). -/
def State.answerWritten (w : State) (x : Exchange) (amount : Nat) : State :=
  (w.takeCells (cellsFor amount)).release (x.ownCells - x.bare.ownCells)

theorem conclude_of_written {amount : Nat} (hamount : answerAmount r.state x r.answer = amount) (h : amount ≠ 0) {runs : List (List Byte)}
    (hruns : runsOf (r.state.segment .i) amount (r.answer.take amount) = runs) :
    State.conclude i x r = ((r.state.answerWritten x amount).setExchange i (x.answering r.code amount runs.length)).enqueueAll .i
      (runDescriptors (r.state.refOf i) 0 runs) := by
  simp only [State.conclude, hamount, if_neg h, hruns]
  rfl

/-- Of an exchange that holds no parked STATUS and no snapshot, every cell is given back. -/
theorem State.answerWritten_freeCells (w : State) {amount : Nat} (hcells : cellsFor amount ≤ w.freeCells) (hk : x.parked = none)
    (hn : x.snapshot = none) : (w.answerWritten x amount).freeCells + cellsFor amount = w.freeCells + x.ownCells := by
  rw [State.answerWritten, State.release_freeCells, State.takeCells_freeCells, Exchange.bare_ownCells_of_plain hk hn]
  omega

/-- The runs of an answer join port I's queue, and the entry keeps the code and the length. -/
theorem conclude_of_written_frame {amount m : Nat} (hamount : answerAmount r.state x r.answer = amount) (h : 1 ≤ amount)
    (hup : (r.state.port .i).state = .up) (hm : (r.state.port .i).peerSegment = some m) (hk : x.parked = none) (hn : x.snapshot = none) :
    let runs := runsOf m amount (r.answer.take amount)
    let v := State.conclude i x r
    v.entry i = { r.state.entry i with exchange := some (x.answering r.code amount runs.length) }
      ∧ r.state.sameEntriesBut v i ∧ r.state.sameLists v ∧ r.state.sameCore v ∧ r.state.sameAlerts v
      ∧ v.freeCells + cellsFor amount = r.state.freeCells + x.ownCells
      ∧ r.state.queuedOn v .i (runDescriptors (r.state.refOf i) 0 runs) := by
  intro runs v
  have hsegment : r.state.segment .i = m := by rw [State.segment, hm, Option.getD_some]
  have hv : v = _ := conclude_of_written (i := i) (runs := runs) hamount (Nat.one_le_iff_ne_zero.1 h) (by rw [hsegment])
  have hcells : cellsFor amount ≤ r.state.freeCells := hamount ▸ cellsFor_answerAmount_le r.state x r.answer
  have hports : ∀ q, ((r.state.answerWritten x amount).setExchange i (x.answering r.code amount runs.length)).port q = r.state.port q :=
    fun q => (State.setExchange_port ..).trans ((State.release_port ..).trans (State.takeCells_port ..))
  have hqueues := State.enqueueAll_queues ((r.state.answerWritten x amount).setExchange i (x.answering r.code amount runs.length)) .i
    (runDescriptors (r.state.refOf i) 0 runs)
  rw [← hv] at hqueues
  obtain ⟨hself, hother⟩ := hqueues.queued
  refine ⟨?_, fun j hj => ?_, hqueues.lists, hqueues.core, hqueues.alerts, ?_, hself.trans (by rw [hports]),
    fun q hq => (hother q hq).trans (hports q)⟩
  · rw [State.entry_congr hqueues.entries, State.setExchange_entry_self]
    rfl
  · rw [State.entry_congr hqueues.entries, State.setExchange_entry_ne _ _ hj]
    rfl
  · rw [hqueues.cells (by rw [hports, hup])]
    exact r.state.answerWritten_freeCells hcells hk hn

end

/-! ## The statement -/

/-- Settles O46: with no byte written the exchange closes at once and what follows its STATUS is done; else the answer waits in runs. -/
theorem performanceConcludes : Obligations.PerformanceConcludes := by
  intro i x r hup amount w v
  have hamount : answerAmount w x r.answer = amount := rfl
  refine ⟨fun hnone => ⟨fun hstays => ?_, fun hrevoke => ?_⟩, fun hsome hk hn m hm hpos => ?_⟩
  · rw [hnone] at hamount
    cases ha : r.after with
    | nothing =>
      have hends := w.concludedAtOnce_endsWith i x r.code false
      rw [← conclude_of_nothing hamount ha] at hends
      exact ⟨hends.freed, hends.alerts, hends.cells, fun _ => ⟨hends.core, hends.queued⟩, nofun⟩
    | markWarmReset =>
      have hends := w.concludedAtOnce_endsWith i x r.code (!w.warmPending)
      have hv : v = _ := conclude_of_markWarmReset hamount ha
      rw [hv]
      exact ⟨hends.freed, hends.alerts, hends.cells, nofun, fun _ => ⟨rfl, hends.queued⟩⟩
    | revokeLease => exact absurd ha hstays
  · rw [hnone] at hamount
    have hends := w.concludedAtOnce_endsWith i x r.code false
    obtain ⟨-, -, -, hlease, -⟩ := hends.core
    have hv : v = _ := conclude_of_revokeLease hamount hrevoke
    refine ⟨_, hends.freed, hends.core, hends.alerts, hends.cells, hends.queued, fun hfree => ?_, fun l hl => ?_⟩
    · rw [hv, State.endLease_of_free (hlease.trans hfree)]
    · rw [hv]
      exact State.endLease_leaseEnded (hlease.trans hl) .revoked
  · have hlength : (r.answer.take amount).length = amount := List.length_take_of_le (answerAmount_le w x r.answer)
    obtain ⟨hentry, hothers, hlists, hcore, halerts, hcells, hqueued⟩ := conclude_of_written_frame (i := i) hamount hsome hup hm hk hn
    exact ⟨_, runsOf_flatten hlength.le, fun _ => length_mem_dropLast_runsOf hpos, fun _ => length_mem_runsOf hpos, hentry, hothers, hlists,
      hcore, halerts, hcells, hqueued⟩

end Sys2Proof.Machine
end

section
/-! CLAIM, RENEW and RELEASE_LEASE, carried out (R42, R142 to R144). -/

namespace Sys2Proof.Machine

section
variable {s : State} {caller : InitiatorId}

/-! ## CLAIM (R143) -/

/-- CLAIM's answer as 13.2 lays it out. -/
theorem claimAnswer_eq (s : State) (l : Lease) :
    claimAnswer s l = [BitVec.ofNat 8 l.owner.val, if s.dirty then 0x01#8 else 0x00#8] ++ toBE 2 (s.sequence + 1#16).toNat
      ++ toBE 4 l.deadline.toNat ++ toBE 4 s.generation.toNat := by
  unfold claimAnswer
  cases s.dirty <;> rfl

/-- A lease that nobody else owns is the caller's. -/
theorem opClaim_of_not_others (h : ∀ l, s.lease = some l → l.owner = caller) :
    opClaim s caller = {
      state := { s with lease := some (s.newLease caller) }, answer := claimAnswer s (s.newLease caller), code := 0x00#8 } := by
  unfold opClaim
  cases hl : s.lease with
  | none => rfl
  | some l => exact if_pos (h l hl)

/-- Another's lease stays with its owner. -/
theorem opClaim_of_others {l : Lease} (hl : s.lease = some l) (ho : l.owner ≠ caller) :
    opClaim s caller = { state := s, answer := [BitVec.ofNat 8 l.owner.val], code := 0xE1#8 } := by
  rw [opClaim, hl]
  exact if_neg ho

end

/-! ## The statement -/

/-- Settles O49: each of the three passes its checks at the verdict and is carried out. -/
theorem leaseOperationsComplete : Obligations.LeaseOperationsComplete := by
  intro s u f i hat q v ms l hmay
  have hlease : v.newLease q.initiator = l := rfl
  refine ⟨fun hparams => ?_, fun hown => ⟨fun hparams => ?_, fun hparams l0 hl0 => ?_⟩⟩
  · have hclaim : exec (.claim .verdict) s = State.concluded f i (opClaim v q.initiator) :=
      hat.exec_carryOut (op := .claim) (c := .claim) (by simp [mgmtCommands]) hparams rfl rfl (by decide) hmay (.inl rfl)
    refine ⟨fun hfree => ?_, fun l0 hl0 ho => ?_⟩
    · rw [hclaim, opClaim_of_not_others hfree, claimAnswer_eq, hlease]
    · rw [hclaim, opClaim_of_others hl0 ho]
  · exact hat.exec_carryOut (op := .renew) (c := .renew) (by simp [mgmtCommands]) hparams rfl rfl (by decide) hmay (.inr hown)
  · refine ⟨v.endLease .released, ?_, State.endLease_leaseEnded hl0 .released⟩
    exact hat.exec_carryOut (op := .releaseLease) (c := .releaseLease) (by simp [mgmtCommands]) hparams rfl rfl (by decide) hmay (.inr hown)

end Sys2Proof.Machine
end

section
/-! WRITE_ENTRY, CLEAR_STAGING and COMMIT, carried out on the staging bank (R137, R149 to R155). -/

namespace Sys2Proof.Machine

section
variable {s : State}

/-! ## The two banks (R149, R153) -/

theorem State.setStaging_stagingBank (s : State) (b : Bank) : (s.setStaging b).stagingBank = b := by
  unfold State.setStaging
  split <;> next h => simp only [State.stagingBank, h]; rfl

theorem State.setStaging_keeps_activeBank (s : State) (b : Bank) : (s.setStaging b).activeBank = s.activeBank := by
  unfold State.setStaging
  split <;> next h => simp only [State.activeBank, h]; rfl

/-- The swap exchanges the banks themselves. -/
theorem State.swapBanks_banks (s : State) : s.swapBanks.activeBank = s.stagingBank ∧ s.swapBanks.stagingBank = s.activeBank := by
  refine ⟨rfl, ?_⟩
  have hback : otherBank (otherBank s.active) = s.active := by cases s.active <;> rfl
  exact congrArg s.bank hback

/-! ## WRITE_ENTRY (R150) -/

theorem opWriteEntry_of_stored {params body : List Byte} {t : Table} {b : Bank} (ht : tableOf (byteAt params 1) = some t)
    (hn : (byteAt params 2).toNat < t.size) (hr : s.resync = none)
    (hb : s.stagingBank.withRecord t (byteAt params 2).toNat body = some b) :
    opWriteEntry s params body = { state := { s.setStaging b with dirty := true }, answer := [], code := 0x00#8 } := by
  simp only [opWriteEntry, ht, if_neg (Nat.not_le.2 hn), hr, hb]
  rfl

theorem Exchange.requestBytes_of_inCells {x : Exchange} {request : List Byte} (h : x.storedRequest = some (.inCells request)) :
    x.requestBytes = request := by
  rw [Exchange.requestBytes, h]

/-- A body passes check 1 of R139 where its block names WRITE_ENTRY. -/
theorem namedOp_of_writeEntry {y : Exchange} {request : List Byte} {b1 b2 : Byte} (hq : y.storedRequest = some (.inCells request))
    (hparams : requestParams request = [0x06#8, b1, b2, 0#8]) (hd : y.direction = .dirOut) (hl : 1 ≤ y.length) :
    y.namedOp = some .writeEntry := by
  rw [Exchange.namedOp_eq_some_iff, Exchange.requestBytes_of_inCells hq, hparams]
  exact ⟨rfl, rfl, rfl, (MgmtOp.bodyOk_iff hl).2 (iff_of_true hd rfl)⟩

/-- The owner's WRITE_ENTRY with its whole body is carried out. -/
theorem operationResult_of_writeEntry {i : EntryIndex} {y : Exchange} {request : List Byte} {b1 b2 : Byte}
    (hq : y.storedRequest = some (.inCells request)) (hparams : requestParams request = [0x06#8, b1, b2, 0#8])
    (hd : y.direction = .dirOut) (hl : 1 ≤ y.length) (hmay : s.mayManage y.initiator = true) (hown : s.ownsLease y.initiator = true) :
    operationResult s i y = opWriteEntry s [0x06#8, b1, b2, 0#8] (bodyBytes y.bodyFrames) := by
  rw [operationResult_of_passed (namedOp_of_writeEntry hq hparams hd hl) hmay (.inr hown), Exchange.requestBytes_of_inCells hq, hparams]
  rfl

/-! ## CLEAR_STAGING (R151) -/

theorem opClearStaging_eq (s : State) :
    opClearStaging s = if s.resync = none then { state := { s.setStaging Bank.cleared with dirty := true }, answer := [], code := 0x00#8 }
      else { state := s, answer := [], code := 0xE3#8 } := by
  unfold opClearStaging
  cases s.resync <;> rfl

/-! ## COMMIT (R152 to R154) -/

theorem opCommit_of_busy (hr : s.resync ≠ none) : opCommit s = { state := s, answer := [], code := 0xE3#8 } :=
  if_pos (Option.isSome_iff_ne_none.2 hr)

theorem opCommit_of_fault (hr : s.resync = none) {t : Table} {n : Nat} (hf : s.stagingBank.firstFault = some (t, n)) :
    opCommit s = { state := s, answer := [t.code, 0#8] ++ toBE 2 n, code := 0xE4#8 } := by
  simp only [opCommit, hr, hf]
  rfl

/-- The owner's lease stays in bootstrap or with the MGMT right of the bank now active (R154). -/
theorem State.revokes_iff_of_owner {l : Lease} (hl : s.lease = some l) :
    s.revokes = true ↔ ¬(s.bootstrap = true ∨ s.hasMgmtRight l.owner = true) := by
  simp [State.revokes, hl]

theorem opCommit_of_valid (hr : s.resync = none) (hf : s.stagingBank.firstFault = none) {l : Lease} (hl : s.lease = some l) :
    opCommit s = if s.swapBanks.bootstrap = true ∨ s.swapBanks.hasMgmtRight l.owner = true then
        { state := s.swapBanks, answer := toBE 4 s.swapBanks.generation.toNat, code := 0x00#8 }
      else { state := s.swapBanks, answer := [], code := 0x00#8, after := .revokeLease } := by
  have hrevokes := State.revokes_iff_of_owner (s := s.swapBanks) hl
  simp only [opCommit, hr, hf, hrevokes, ite_not]
  rfl

end

/-! ## The statement -/

/-- Settles O50: the last body frame performs WRITE_ENTRY, the verdict the two others; each is carried out on the state of its performance. -/
theorem stagingOperationsComplete : Obligations.StagingOperationsComplete := by
  refine ⟨?_, ?_⟩
  · intro s u f request i x b1 b2 t htaking hm hs hk hd hq hparams hform hoff hlast hwin ht hn y v record hmay hown
    have hl : 1 ≤ x.length := by
      obtain ⟨-, hpos, -⟩ := dataFormOk_iff.1 hform
      exact hlast ▸ Nat.le_add_left_of_le hpos
    obtain ⟨-, -, htake⟩ := managementBodyIsGrantedAndTaken
    obtain ⟨-, hperform⟩ := htake s u f i x htaking hm hs hk hform hoff (hlast.trans_le hwin)
    obtain ⟨hdata, hcommand⟩ := hperform hlast
    have hcode : (requestParams x.requestBytes).head? = some 0x06#8 := by
      rw [Exchange.requestBytes_of_inCells hq, hparams]
      rfl
    have hresult : exec (.writeEntry .lastBodyFrame) s = .next (State.conclude i y (operationResult v i y)).settle := by
      rw [(hcommand 0x06#8 .writeEntry .writeEntry (by simp [mgmtCommands]) hcode).1, hdata, hlast]
    have hrecord : bodyBytes y.bodyFrames = record := rfl
    rw [operationResult_of_writeEntry (y := y) hq hparams hd hl hmay hown, hrecord] at hresult
    refine ⟨fun hr => ?_, fun hr hb => ?_, fun hr b hb => ⟨?_, v.setStaging_stagingBank b, v.setStaging_keeps_activeBank b⟩⟩
    · rw [hresult, opWriteEntry_of_busy (params := [_, b1, b2, _]) ht hn hr]
      rfl
    · rw [hresult, opWriteEntry_of_badBody (params := [_, b1, b2, _]) ht hn hr hb]
      rfl
    · rw [hresult, opWriteEntry_of_stored (params := [_, b1, b2, _]) ht hn hr hb]
  · intro s u f i hat q v hmay hown
    refine ⟨fun hparams => ?_, fun hparams => ?_⟩
    · rw [← opClearStaging_eq]
      exact hat.exec_carryOut (op := .clearStaging) (c := .clearStaging) (by simp [mgmtCommands]) hparams rfl rfl (by decide) hmay (.inr hown)
    · have hcommit : exec (.commit .verdict) s = State.concluded f i (opCommit v) :=
        hat.exec_carryOut (op := .commit) (c := .commit) (by simp [mgmtCommands]) hparams rfl rfl (by decide) hmay (.inr hown)
      refine ⟨fun hr => ?_, fun hr t n hf => ?_, ?_⟩
      · rw [hcommit, opCommit_of_busy hr]
      · rw [hcommit, opCommit_of_fault hr hf]
      · intro hr hf w
        obtain ⟨l, hl, howner⟩ := State.ownsLease_iff.1 hown
        obtain ⟨hactive, hstaging⟩ := v.swapBanks_banks
        refine ⟨hactive, hstaging, ?_⟩
        rw [hcommit, opCommit_of_valid hr hf hl, howner]
        rfl

end Sys2Proof.Machine
end

section
/-! The queue of commands and the reset pin (R21, R26, R92, R110, R111, R118, R126, R142, R147, R149, R158, R165; log entries 2, 4, 6 and 21). -/

namespace Sys2Proof.Machine

variable {s : State}

/-! ## The queue of commands -/

/-- Settles O1: a step is the command at the front of the queue on the state with the queue's rest, and idles on an empty queue. -/
theorem stepRunsFrontCommand : Obligations.StepRunsFrontCommand := by
  refine ⟨fun c s rest h => step_of_pending h, fun s h => ?_⟩
  unfold step
  rw [h]

/-! ## Power-on values -/

theorem State.powerOn_entry (s : State) (pin : Bool) (i : EntryIndex) : (s.powerOn pin).entry i = { inc := 0, exchange := none } :=
  State.reset_entry i

theorem State.powerOn_port (s : State) (pin : Bool) (p : Port) : (s.powerOn pin).port p = {} := State.reset_port p

theorem State.powerOn_inUseCount (s : State) (pin : Bool) (n : InitiatorId) : (s.powerOn pin).inUseCount n = 0 := by
  simp [State.inUseCount, State.powerOn_entry]

/-- The first allocation of an entry after power-on raises its incarnation from 0 to 1 (R11, R21). -/
theorem State.powerOn_allocate_inc (s : State) (pin : Bool) (i : EntryIndex) (x : Exchange) :
    (((s.powerOn pin).allocate i x).entry i).inc = 1 := by
  rw [State.allocate_entry_self, State.powerOn_entry]
  rfl

theorem State.powerOn_first_tag (s : State) (pin : Bool) (x : Exchange) :
    downstreamTag (((s.powerOn pin).allocate 0 x).refOf 0) = 0x0040#16 := by
  rw [State.refOf, State.powerOn_allocate_inc]
  rfl

/-! ## The pin held low (log entry 4) -/

/-- While the pin is held only its own two commands do anything. -/
theorem exec_held (hp : s.resetPin = true) {c : Instr} (hrelease : c ≠ .powerOnReset) (hassert : c ≠ .resetPinAssertion) :
    exec c s = .next s := by
  cases c with
  | powerOnReset => exact absurd rfl hrelease
  | resetPinAssertion => exact absurd rfl hassert
  | signalPresent | laneLock | creditSend | millisecondClockAdvance => exact plainEvent_held hp
  | _ => exact event_held hp

/-- Settles O2: both commands of the pin answer the reset state, read here field by field. -/
theorem resetPinSetsPowerOnValues : Obligations.ResetPinSetsPowerOnValues := by
  refine ⟨fun s => ⟨s.powerOn false, rfl, rfl, rfl, rfl, fun p => ?_, s.powerOn_entry false, s.powerOn_inUseCount false,
    s.powerOn_allocate_inc false, s.powerOn_first_tag false, rfl, rfl, rfl, rfl, rfl, rfl, rfl, rfl, rfl, rfl, rfl, rfl, rfl, rfl, rfl, rfl,
    rfl, rfl⟩, fun c s hp => exec_held hp⟩
  rw [State.powerOn_port]
  exact ⟨rfl, rfl, rfl, rfl, ⟨rfl, rfl, rfl, rfl, rfl, rfl⟩, rfl⟩

end Sys2Proof.Machine
end

section
/-! Alert delivery under every update of the part: what only posts alerts, and what makes delivery legal (R120, R134, R157 to R160, R162). -/

namespace Sys2Proof.Machine

variable {o s t : State} {p : Port} {d : Descriptor}

/-! ## ALERT descriptors of a queue (R120) -/

theorem alertCount_append (a b : List Descriptor) : alertCount (a ++ b) = alertCount a + alertCount b := List.countP_append

theorem alertCount_cons_of_not_alert (hd : d.isAlert = false) (ds : List Descriptor) : alertCount (d :: ds) = alertCount ds :=
  List.countP_cons_of_neg (by simp [hd])

theorem alertCount_cons_of_alert (hd : d.isAlert = true) (ds : List Descriptor) : alertCount (d :: ds) = alertCount ds + 1 :=
  List.countP_cons_of_pos hd

/-- Descriptors other than ALERT leave the queue. -/
theorem alertCount_withdrawn {gone : Descriptor → Bool} (hgone : ∀ d, d.isAlert = true → gone d = false) (ds : List Descriptor) :
    alertCount (ds.filter fun d => !gone d) = alertCount ds := by
  rw [alertCount, List.countP_filter]
  refine List.countP_congr fun d _ => ?_
  cases hd : d.isAlert
  · simp
  · simp [hgone d hd]

theorem alertCount_without_alerts (ds : List Descriptor) : alertCount (ds.filter fun d => !d.isAlert) = 0 := by
  simp [alertCount, List.countP_eq_zero]

/-! ## What only posts alerts -/

/-- What alert delivery reads beside the ports. -/
def State.delivery (s : State) : Option Lease × Option Batch × BitVec 16 × List Alert × Nat :=
  (s.lease, s.batch, s.sequence, s.alerts, s.dropped)

/-- From `o` to `s` nothing but alerts that were posted has touched delivery: lease, batch and ALERT descriptors stand, and port I has not
left UP. -/
structure State.PostsOnly (o s : State) : Prop where
  queued : ∀ p, alertCount (s.port p).egress = alertCount (o.port p).egress
  up : o.isUp .i = true → s.isUp .i = true
  lease : s.lease = o.lease
  batch : s.batch = o.batch
  sequence : s.sequence = o.sequence
  longer : o.alerts.length ≤ s.alerts.length
  room : o.alerts.length ≤ Config.alertRecords → s.alerts.length ≤ Config.alertRecords
  dropped : o.dropped ≤ Config.droppedMax → s.dropped ≤ Config.droppedMax

theorem State.PostsOnly.refl (s : State) : s.PostsOnly s := ⟨fun _ => rfl, id, rfl, rfl, rfl, le_rfl, id, id⟩

theorem State.PostsOnly.trans (h : o.PostsOnly s) (k : s.PostsOnly t) : o.PostsOnly t where
  queued p := (k.queued p).trans (h.queued p)
  up := k.up ∘ h.up
  lease := k.lease.trans h.lease
  batch := k.batch.trans h.batch
  sequence := k.sequence.trans h.sequence
  longer := h.longer.trans k.longer
  room := k.room ∘ h.room
  dropped := k.dropped ∘ h.dropped

theorem State.postsOnly_of_ports (hqueued : ∀ p, alertCount (t.port p).egress = alertCount (s.port p).egress)
    (hup : s.isUp .i = true → t.isUp .i = true) (hdelivery : t.delivery = s.delivery) : s.PostsOnly t := by
  simp only [State.delivery, Prod.mk.injEq] at hdelivery
  obtain ⟨hlease, hbatch, hsequence, halerts, hdropped⟩ := hdelivery
  exact ⟨hqueued, hup, hlease, hbatch, hsequence, by rw [halerts], by rw [halerts]; exact id, by rw [hdropped]; exact id⟩

/-- Neither the ports nor delivery change. -/
theorem State.PostsOnly.congr (h : o.PostsOnly s) (hports : ∀ p, t.port p = s.port p) (hdelivery : t.delivery = s.delivery) : o.PostsOnly t :=
  h.trans (State.postsOnly_of_ports (fun p => by rw [hports]) (by simp only [State.isUp, hports]; exact id) hdelivery)

/-- One port's record changes, but not its ALERT descriptors, and port I does not leave UP. -/
theorem State.PostsOnly.setPort (h : o.PostsOnly s) {r : PortRecord} (hqueued : alertCount r.egress = alertCount (s.port p).egress)
    (hup : p = .i → (s.port p).state = .up → r.state = .up) : o.PostsOnly (s.setPort p r) := by
  refine h.trans (State.postsOnly_of_ports (fun q => ?_) ?_ (by simp [State.delivery]))
  · rw [State.setPort_port]
    split
    · next hq => rw [hq, hqueued]
    · rfl
  · rw [State.isUp_iff, State.isUp_iff, State.setPort_port]
    split
    · next hp => subst hp; exact hup rfl
    · exact id

theorem State.PostsOnly.setPort_sameState (h : o.PostsOnly s) {r : PortRecord} (hqueued : alertCount r.egress = alertCount (s.port p).egress)
    (hstate : r.state = (s.port p).state) : o.PostsOnly (s.setPort p r) :=
  h.setPort hqueued fun _ hup => hstate.trans hup

theorem State.PostsOnly.release (h : o.PostsOnly s) (n : Nat) : o.PostsOnly (s.release n) := h.congr (fun _ => rfl) rfl

theorem State.PostsOnly.takeCells (h : o.PostsOnly s) (n : Nat) : o.PostsOnly (s.takeCells n) := h.congr (fun _ => rfl) rfl

theorem State.PostsOnly.discard (h : o.PostsOnly s) (f : List Byte) : o.PostsOnly (s.discard f) := h.congr (fun _ => rfl) rfl

theorem State.PostsOnly.setExchange (h : o.PostsOnly s) (i : EntryIndex) (x : Exchange) : o.PostsOnly (s.setExchange i x) :=
  h.congr (fun _ => rfl) rfl

theorem State.PostsOnly.allocate (h : o.PostsOnly s) (i : EntryIndex) (x : Exchange) : o.PostsOnly (s.allocate i x) :=
  h.congr (fun _ => rfl) rfl

theorem State.PostsOnly.setStaging (h : o.PostsOnly s) (b : Bank) : o.PostsOnly (s.setStaging b) :=
  h.congr (fun _ => State.setStaging_port ..) (by simp [State.delivery])

theorem State.PostsOnly.freeEntry (h : o.PostsOnly s) (i : EntryIndex) : o.PostsOnly (s.freeEntry i) :=
  h.congr (fun _ => State.freeEntry_port ..) (by simp [State.delivery])

/-- A frame joins a queue: no descriptor of ALERT does. -/
theorem State.PostsOnly.enqueue (h : o.PostsOnly s) (p : Port) (hd : d.isAlert = false) : o.PostsOnly (s.enqueue p d) := by
  refine h.trans (State.postsOnly_of_ports (fun q => ?_) (by simp) (by simp [State.delivery]))
  rw [State.enqueue_port, alertCount_append]
  split
  · rw [alertCount_cons_of_not_alert hd]; rfl
  · rfl

theorem State.PostsOnly.enqueueAll {ds : List Descriptor} (h : o.PostsOnly s) (p : Port) (hds : ∀ d ∈ ds, d.isAlert = false) :
    o.PostsOnly (s.enqueueAll p ds) := by
  induction ds generalizing s with
  | nil => exact h
  | cons d ds ih =>
    obtain ⟨hd, hds⟩ := List.forall_mem_cons.1 hds
    exact ih (h.enqueue p hd) hds

theorem State.PostsOnly.withdraw {gone : Descriptor → Bool} (h : o.PostsOnly s) (p : Port) (hgone : ∀ d, d.isAlert = true → gone d = false) :
    o.PostsOnly (s.withdraw p gone) := by
  refine h.trans (State.postsOnly_of_ports (fun q => ?_) (by simp) (by simp [State.delivery]))
  rw [State.withdraw_port]
  dsimp only
  split
  · exact alertCount_withdrawn hgone _
  · rfl

/-- A post takes a record of room, or raises the dropped count up to its bound (R158). -/
theorem State.PostsOnly.post (h : o.PostsOnly s) (a : Alert) : o.PostsOnly (s.post a) := by
  refine h.trans ⟨fun p => by rw [State.post_port], fun hup => ?_, s.post_lease a, s.post_batch a, s.post_sequence a, ?_, s.post_length a, ?_⟩
  · rwa [State.isUp, State.post_port]
  · unfold State.post
    split
    · simp
    · exact le_rfl
  · unfold State.post
    split
    · exact id
    · exact fun _ => Nat.min_le_left ..

theorem State.PostsOnly.foldl {rule : State → EntryIndex → State} (hrule : ∀ {s : State} i, o.PostsOnly s → o.PostsOnly (rule s i))
    (h : o.PostsOnly s) (l : List EntryIndex) : o.PostsOnly (l.foldl rule s) := by
  induction l generalizing s with
  | nil => exact h
  | cons i l ih => exact ih (hrule i h)

/-- A consumer takes a frame from the arrivals. -/
theorem State.takeNext_postsOnly {c : Consumer} {f : List Byte} (h : s.takeNext c p = some (f, t)) : s.PostsOnly t := by
  obtain ⟨rest, -, rfl⟩ := State.takeNext_some h
  exact (State.PostsOnly.refl s).setPort_sameState (by rfl) (by rfl)

theorem State.takeKind_postsOnly {b : Byte} {f : List Byte} (h : s.takeKind p b = some (f, t)) : s.PostsOnly t :=
  State.takeNext_postsOnly (State.takeKind_some h).2

theorem State.grant_postsOnly (s : State) : s.PostsOnly s.grant := by
  obtain ⟨n, hgrants⟩ := s.grant_grants
  refine State.postsOnly_of_ports (fun p => by rw [hgrants.port]) ?_ (by simp [State.delivery])
  rw [State.isUp, State.isUp, hgrants.port]
  exact id

/-! ## Legal delivery -/

/-- The records, the dropped count and the batch in flight are legal (R157 to R159). -/
structure State.RecordsOk (s : State) : Prop where
  alerts : s.alerts.length ≤ Config.alertRecords
  dropped : s.dropped ≤ Config.droppedMax
  batch : s.batchOk

/-- The ALERT descriptors a port's queue is to hold: one on port I while a batch's frame has still to leave (R159, R160). -/
def State.alertsDue (s : State) (p : Port) : Nat := if p = .i ∧ (s.batch.any fun b => b.resend.isNone) = true then 1 else 0

/-- Delivery is legal: the records are, each queue holds the ALERT descriptors due, and a lease needs port I in UP (R134). -/
structure State.Delivers (s : State) : Prop extends s.RecordsOk where
  queued : ∀ p, alertCount (s.port p).egress = s.alertsDue p
  owner : s.lease.isSome = true → s.isUp .i = true

theorem State.alertsDue_i (s : State) : s.alertsDue .i = if (s.batch.any fun b => b.resend.isNone) = true then 1 else 0 := by
  simp [State.alertsDue]

theorem State.delivers_iff : s.Delivers ↔ s.deliveryOk := by
  constructor
  · rintro ⟨⟨halerts, hdropped, hbatch⟩, hqueued, howner⟩
    exact ⟨halerts, hdropped, hbatch, ⟨(hqueued .i).trans s.alertsDue_i, hqueued .t0, hqueued .t1⟩, howner⟩
  · rintro ⟨halerts, hdropped, hbatch, ⟨hi, ht0, ht1⟩, howner⟩
    refine ⟨⟨halerts, hdropped, hbatch⟩, fun p => ?_, howner⟩
    cases p with
    | i => exact hi.trans s.alertsDue_i.symm
    | t0 => exact ht0
    | t1 => exact ht1

theorem State.alertsDue_congr (h : t.batch = s.batch) (p : Port) : t.alertsDue p = s.alertsDue p := by rw [State.alertsDue, h]; rfl

theorem State.alertsDue_target (s : State) (hp : p ≠ .i) : s.alertsDue p = 0 := if_neg fun h => hp h.1

theorem State.alertsDue_idle (h : s.batch = none) (p : Port) : s.alertsDue p = 0 := by simp [State.alertsDue, h]

theorem State.RecordsOk.posts (ho : o.RecordsOk) (h : o.PostsOnly s) : s.RecordsOk := by
  refine ⟨h.room ho.alerts, h.dropped ho.dropped, fun b hb => ?_⟩
  obtain ⟨hlease, hone, hfour, hsize, hcarried, hsequence⟩ := ho.batch b (h.batch ▸ hb)
  exact ⟨h.lease ▸ hlease, hone, hfour, hsize.trans h.longer, hcarried, hsequence.trans h.sequence.symm⟩

/-- Posting alone keeps delivery legal. -/
theorem State.Delivers.posts (ho : o.Delivers) (h : o.PostsOnly s) : s.Delivers where
  toRecordsOk := ho.toRecordsOk.posts h
  queued p := (h.queued p).trans ((ho.queued p).trans (State.alertsDue_congr h.batch p).symm)
  owner hlease := h.up (ho.owner (h.lease ▸ hlease))

/-- Without a batch in flight. -/
theorem State.delivers_of_idle (hbatch : s.batch = none) (halerts : s.alerts.length ≤ Config.alertRecords)
    (hdropped : s.dropped ≤ Config.droppedMax) (hqueued : ∀ p, alertCount (s.port p).egress = 0)
    (howner : s.lease.isSome = true → s.isUp .i = true) : s.Delivers where
  alerts := halerts
  dropped := hdropped
  batch b hb := by rw [hbatch] at hb; cases hb
  queued p := (hqueued p).trans (State.alertsDue_idle hbatch p).symm
  owner := howner

/-- A batch needs an owner (R159). -/
theorem State.RecordsOk.idle (hs : s.RecordsOk) (hlease : s.lease = none) : s.batch = none := by
  by_contra hbatch
  obtain ⟨b, hb⟩ := Option.ne_none_iff_exists'.1 hbatch
  obtain ⟨hsome, -⟩ := hs.batch b hb
  rw [hlease] at hsome
  cases hsome

/-- A batch whose frame has still to leave queues its descriptor (R159, R160). -/
theorem State.RecordsOk.queueAlert {b : Batch} (hs : s.RecordsOk) (hb : s.batch = some b) (hr : b.resend = none) (hup : s.isUp .i = true)
    (hidle : ∀ p, alertCount (s.port p).egress = 0) : (s.enqueue .i { content := .alert }).Delivers := by
  refine ⟨⟨by rw [State.enqueue_alerts]; exact hs.alerts, by rw [State.enqueue_dropped]; exact hs.dropped, ?_⟩, fun p => ?_, fun _ => ?_⟩
  · simpa [State.batchOk] using hs.batch
  · rw [State.enqueue_port, alertCount_append, hidle, State.alertsDue, State.enqueue_batch, hb]
    simp only [hup, and_true, Option.any_some, hr, Option.isNone_none]
    split <;> rfl
  · rwa [State.enqueue_isUp]

/-- The lease is taken or renewed while port I is UP (R143, R144). -/
theorem State.Delivers.withLease (hs : s.Delivers) (hup : s.isUp .i = true) (l : Lease) : ({ s with lease := some l } : State).Delivers where
  alerts := hs.alerts
  dropped := hs.dropped
  batch b hb := ⟨rfl, (hs.batch b hb).2⟩
  queued := hs.queued
  owner _ := hup

/-- The end of a lease ends its batch, and the descriptor leaves port I's queue, if it has not left before (R142, R162). -/
theorem State.RecordsOk.endLease (hs : s.RecordsOk) (htargets : ∀ p, p ≠ .i → alertCount (s.port p).egress = 0)
    (hfree : s.lease = none → alertCount (s.port .i).egress = 0) (why : LeaseEnd) : (s.endLease why).Delivers := by
  unfold State.endLease
  split
  · next hlease =>
    refine State.delivers_of_idle (hs.idle hlease) hs.alerts hs.dropped (fun p => ?_) (by rw [hlease]; nofun)
    by_cases hp : p = .i
    · exact hp ▸ hfree hlease
    · exact htargets p hp
  · refine State.Delivers.posts (State.delivers_of_idle ?_ ?_ ?_ (fun p => ?_) ?_) ((State.PostsOnly.refl _).post _)
    · exact State.withdraw_batch ..
    · rw [State.withdraw_alerts]; exact hs.alerts
    · rw [State.withdraw_dropped]; exact Nat.min_le_left ..
    · rw [State.withdraw_port]
      dsimp only
      split
      · exact alertCount_without_alerts _
      · next hp => exact htargets p hp
    · rw [State.withdraw_lease]; nofun

theorem State.Delivers.endLease (hs : s.Delivers) (why : LeaseEnd) : (s.endLease why).Delivers :=
  hs.toRecordsOk.endLease (fun p hp => (hs.queued p).trans (s.alertsDue_target hp))
    (fun hlease => (hs.queued .i).trans (State.alertsDue_idle (hs.idle hlease) .i)) why

/-- A batch that is formed is legal, and its descriptor waits (R159). -/
theorem State.Delivers.formBatch (hs : s.Delivers) : s.formBatch.Delivers := by
  by_cases h : s.forms
  · rw [State.formBatch_of_forms h]
    obtain ⟨hbatch, hlease, halerts⟩ := h
    have howned : s.lease.isSome = true := Option.isSome_iff_ne_none.2 hlease
    have hsize : 1 ≤ s.alerts.length := List.length_pos_iff.2 halerts
    have hrecords : s.withBatch.RecordsOk := by
      refine ⟨hs.alerts, Nat.zero_le _, fun b hb => ?_⟩
      cases hb
      exact ⟨howned, Nat.le_min.2 ⟨by decide, hsize⟩, Nat.min_le_left .., Nat.min_le_right .., hs.dropped, rfl⟩
    exact hrecords.queueAlert rfl rfl (hs.owner howned) fun p => (hs.queued p).trans (State.alertsDue_idle hbatch p)
  · rwa [State.formBatch_of_not_forms h]

theorem State.Delivers.settle (hs : s.Delivers) : s.settle.Delivers := (hs.posts s.grant_postsOnly).formBatch

end Sys2Proof.Machine
end

section
/-! Alert delivery through every operation of the part, in the order of the model's files (R134, R142, R154, R157 to R162). -/

namespace Sys2Proof.Machine

variable {o s t : State} {p : Port} {i : EntryIndex} {x : Exchange} {f : List Byte}

/-! ## How an exchange ends -/

theorem State.PostsOnly.closeAndFree (h : o.PostsOnly s) (i : EntryIndex) (x : Exchange) (code : Byte) :
    o.PostsOnly (s.closeAndFree i x code) :=
  (h.enqueue .i rfl).freeEntry i

theorem State.PostsOnly.closeManagement (h : o.PostsOnly s) (i : EntryIndex) (x : Exchange) (code : Byte) (mark : Bool) :
    o.PostsOnly (s.closeManagement i x code mark) :=
  (h.enqueue .i rfl).freeEntry i

theorem State.PostsOnly.deliverStatus (h : o.PostsOnly s) (i : EntryIndex) (x : Exchange) (k : ParkedStatus) :
    o.PostsOnly (s.deliverStatus i x k) :=
  ((h.setExchange i _).enqueue .i rfl).freeEntry i

/-- What a REQUEST's withdrawal selects is no ALERT descriptor. -/
theorem State.PostsOnly.withdrawUnseen (h : o.PostsOnly s) (i : EntryIndex) (x : Exchange) : o.PostsOnly (s.withdrawUnseen i x) := by
  unfold State.withdrawUnseen
  split
  · refine h.withdraw _ fun d halert => ?_
    have hrequest : d.isRequest = false := Bool.eq_false_of_not_eq_true fun hr => by
      obtain ⟨-, hnot⟩ := Descriptor.isRequest_stored hr
      rw [hnot] at halert
      cases halert
    simp [hrequest]
  · exact h

theorem State.PostsOnly.enterAborting (h : o.PostsOnly s) (i : EntryIndex) (x : Exchange) (g : Routing) (a : AbortOrigin) (closed : Bool) :
    o.PostsOnly (s.enterAborting i x g a closed) :=
  (h.setExchange i _).enqueue _ rfl

theorem State.PostsOnly.endWithStatus (h : o.PostsOnly s) (i : EntryIndex) (x : Exchange) (code : Byte) (a : AbortOrigin) :
    o.PostsOnly (s.endWithStatus i x code a) := by
  unfold State.endWithStatus
  split
  · next g _ => exact (h.enterAborting i x g a true).enqueue .i rfl
  · exact (h.withdrawUnseen i x).closeAndFree ..

theorem State.PostsOnly.phaseViolation (h : o.PostsOnly s) (i : EntryIndex) (x : Exchange) (d : ViolationDetail) :
    o.PostsOnly (s.phaseViolation i x d) :=
  (h.endWithStatus i x _ _).post _

/-! ## The conclusion of a performance (R139, R140) -/

theorem runDescriptors_not_alert (r : EntryRef) (off : Nat) (runs : List (List Byte)) : ∀ d ∈ runDescriptors r off runs, d.isAlert = false := by
  induction runs generalizing off with
  | nil => exact List.forall_mem_nil _
  | cons b bs ih => exact List.forall_mem_cons.2 ⟨rfl, ih _⟩

theorem State.PostsOnly.enqueueRuns (h : o.PostsOnly s) (r : EntryRef) (off : Nat) (runs : List (List Byte)) :
    o.PostsOnly (s.enqueueAll .i (runDescriptors r off runs)) :=
  h.enqueueAll .i (runDescriptors_not_alert r off runs)

theorem conclude_delivers {r : OpResult} (hs : r.state.Delivers) (i : EntryIndex) (x : Exchange) : (State.conclude i x r).Delivers := by
  have hwritten : ∀ a b y, r.state.PostsOnly (((r.state.takeCells a).release b).setExchange i y) := fun a b y =>
    (((State.PostsOnly.refl _).takeCells a).release b).setExchange i y
  simp only [State.conclude]
  split
  · split
    · exact hs.posts ((hwritten _ _ _).closeManagement ..)
    · exact hs.posts (((hwritten _ _ _).closeManagement ..).congr (fun _ => rfl) rfl)
    · exact (hs.posts ((hwritten _ _ _).closeManagement ..)).endLease _
  · exact hs.posts ((hwritten _ _ _).enqueueRuns ..)

/-! ## END_EXCHANGE, HOLD_DECIDE and HOLD_LIST -/

theorem State.PostsOnly.endByManagement (h : o.PostsOnly s) (i : EntryIndex) (x : Exchange) : o.PostsOnly (s.endByManagement i x) := by
  unfold State.endByManagement
  split
  · exact (h.setExchange i _).enqueue .i rfl
  · exact h.endWithStatus ..

theorem opEndExchange_postsOnly (s : State) (i : EntryIndex) (params : List Byte) : s.PostsOnly (opEndExchange s i params).state := by
  have hsame := State.PostsOnly.refl s
  simp only [opEndExchange]
  split
  · split
    · exact hsame
    · split
      · exact hsame
      · split
        · exact hsame
        · split
          · exact hsame
          · exact hsame.endByManagement ..
  · exact hsame

theorem State.PostsOnly.releaseHeld (h : o.PostsOnly s) (i : EntryIndex) (x : Exchange) (g : Routing) (f : List Byte) :
    o.PostsOnly (s.releaseHeld i x g f) := by
  have hplace : o.PostsOnly (s.withoutPlace i) := h.congr (fun _ => rfl) rfl
  rw [State.releaseHeld_eq]
  exact (hplace.setExchange i _).enqueue _ rfl

theorem decideHeld_postsOnly (s : State) (i : EntryIndex) (x : Exchange) (decision : Byte) : s.PostsOnly (decideHeld s i x decision).state := by
  have hsame := State.PostsOnly.refl s
  simp only [decideHeld]
  split
  · exact hsame.closeAndFree ..
  · split
    · split
      · exact hsame.releaseHeld ..
      · exact hsame.closeAndFree ..
    · exact hsame

theorem opHoldDecide_postsOnly (s : State) (params : List Byte) : s.PostsOnly (opHoldDecide s params).state := by
  have hsame := State.PostsOnly.refl s
  simp only [opHoldDecide]
  split
  · split
    · exact hsame
    · split
      · exact hsame
      · split
        · exact hsame
        · exact decideHeld_postsOnly ..
  · exact hsame

theorem State.PostsOnly.expireHold (h : o.PostsOnly s) (i : EntryIndex) (x : Exchange) : o.PostsOnly (s.expireHold i x) :=
  (h.closeAndFree ..).post _

theorem State.PostsOnly.expireHolds (h : o.PostsOnly s) (places : List HoldPlace) : o.PostsOnly (s.expireHolds places) := by
  induction places generalizing s with
  | nil => exact h
  | cons k places ih =>
    unfold State.expireHolds
    split
    · exact ih (h.expireHold ..)
    · exact ih h

/-! ## The other operations -/

theorem opWriteEntry_postsOnly (s : State) (params body : List Byte) : s.PostsOnly (opWriteEntry s params body).state := by
  have hsame := State.PostsOnly.refl s
  simp only [opWriteEntry]
  split
  · exact hsame
  · split
    · exact hsame
    · split
      · exact hsame
      · split
        · exact hsame
        · next b _ => exact (hsame.setStaging b).congr (fun _ => rfl) rfl

theorem opClearStaging_postsOnly (s : State) : s.PostsOnly (opClearStaging s).state := by
  have hsame := State.PostsOnly.refl s
  unfold opClearStaging
  split
  · exact hsame
  · exact (hsame.setStaging Bank.cleared).congr (fun _ => rfl) rfl

theorem opCommit_postsOnly (s : State) : s.PostsOnly (opCommit s).state := by
  have hsame := State.PostsOnly.refl s
  have hswapped : s.PostsOnly s.swapBanks := hsame.congr (fun _ => rfl) rfl
  simp only [opCommit]
  split
  · exact hsame
  · split
    · exact hsame
    · split
      · exact hswapped
      · exact hswapped

/-- The lease is free or the caller's, or stays as it is (R143). -/
theorem opClaim_delivers (hs : s.Delivers) (hup : s.isUp .i = true) (caller : InitiatorId) : (opClaim s caller).state.Delivers := by
  unfold opClaim
  split
  · split
    · exact hs.withLease hup _
    · exact hs
  · exact hs.withLease hup _

/-- The batch leaves with its records, and its descriptor if it has not gone out (R161). -/
theorem opAlertAck_delivers (hs : s.Delivers) (params : List Byte) : (opAlertAck s params).state.Delivers := by
  unfold opAlertAck
  split
  · exact hs
  · split
    · refine State.delivers_of_idle ?_ ?_ ?_ (fun p => ?_) ?_
      · exact State.withdraw_batch ..
      · rw [State.withdraw_alerts]
        exact (List.drop_sublist ..).length_le.trans hs.alerts
      · rw [State.withdraw_dropped]; exact hs.dropped
      · rw [State.withdraw_port]
        dsimp only
        split
        · exact alertCount_without_alerts _
        · next hp => exact (hs.queued p).trans (s.alertsDue_target hp)
      · rw [State.withdraw_lease, State.withdraw_isUp]; exact hs.owner
    · exact hs

/-! ## The performance (R139) -/

theorem carryOut_delivers (hs : s.Delivers) (hup : s.isUp .i = true) (i : EntryIndex) (x : Exchange) (params : List Byte) (op : MgmtOp) :
    (carryOut s i x params op).state.Delivers := by
  cases op with
  | holdList => exact hs.posts ((State.PostsOnly.refl s).expireHolds _)
  | holdDecide => exact hs.posts (opHoldDecide_postsOnly ..)
  | endExchange => exact hs.posts (opEndExchange_postsOnly ..)
  | claim => exact opClaim_delivers hs hup _
  | renew => exact hs.withLease hup _
  | releaseLease => exact hs.endLease _
  | readEntry => exact (opReadEntry_state s params).symm ▸ hs
  | readExchange => exact (opReadExchange_state s params).symm ▸ hs
  | writeEntry => exact hs.posts (opWriteEntry_postsOnly ..)
  | clearStaging => exact hs.posts (opClearStaging_postsOnly s)
  | commit => exact hs.posts (opCommit_postsOnly s)
  | alertAck => exact opAlertAck_delivers hs _
  | identify | linkState | warmReset => exact hs.posts ((State.PostsOnly.refl s).congr (fun _ => rfl) rfl)

theorem operationResult_delivers (hs : s.Delivers) (hup : s.isUp .i = true) (i : EntryIndex) (x : Exchange) :
    (operationResult s i x).state.Delivers := by
  unfold operationResult
  split
  · exact hs
  · split
    · exact hs
    · split
      · exact hs
      · exact carryOut_delivers hs hup ..

theorem State.Delivers.performOperation (hs : s.Delivers) (hup : s.isUp .i = true) (i : EntryIndex) (x : Exchange) :
    (s.performOperation i x).Delivers :=
  conclude_delivers (operationResult_delivers hs hup i x) i x

/-! ## The verdict -/

theorem State.PostsOnly.postDenial (h : o.PostsOnly s) (f : List Byte) (code : Byte) (d : Option (ViewIndex × View)) :
    o.PostsOnly (s.postDenial f code d) := by
  obtain heq | ⟨a, heq⟩ := s.postDenial_eq f code d
  · rw [heq]; exact h
  · rw [heq]; exact h.post a

theorem State.Delivers.admitManagement (hs : s.Delivers) (hup : s.isUp .i = true) (i : EntryIndex) (f : List Byte) :
    (s.admitManagement i f).Delivers := by
  have hopened : ∀ y, s.PostsOnly (s.allocate i y) := (State.PostsOnly.refl s).allocate i
  simp only [State.admitManagement]
  split
  · split
    · exact hs.posts ((hopened _).enqueue .i rfl)
    · exact conclude_delivers (r := refuseOp _ codeBadBody) (hs.posts (hopened _)) ..
  · exact (hs.posts (hopened _)).performOperation ((hopened _).up hup) ..

theorem State.PostsOnly.admitHeld (h : o.PostsOnly s) (i : EntryIndex) (k : ViewIndex) (v : View) (f : List Byte) :
    o.PostsOnly (s.admitHeld i k v f) := by
  rw [State.admitHeld_eq s k v f rfl]
  refine State.PostsOnly.post ?_ _
  exact (h.allocate i (s.holdingExchange k v f)).congr (fun _ => rfl) rfl

theorem State.PostsOnly.admitReply (h : o.PostsOnly s) (i : EntryIndex) (k : ViewIndex) (r : ReplyIndex) (record : ReplyRecord) (f : List Byte) :
    o.PostsOnly (s.admitReply i k r record f) :=
  h.congr (fun _ => rfl) rfl

theorem State.PostsOnly.admitIssued (h : o.PostsOnly s) (i : EntryIndex) (k : ViewIndex) (v : View) (f : List Byte) :
    o.PostsOnly (s.admitIssued i k v f) :=
  (h.allocate i _).enqueue _ rfl

theorem State.Delivers.takeRequest (hs : s.Delivers) (hup : s.isUp .i = true) (f : List Byte) : (s.takeRequest f).Delivers := by
  have hsame := State.PostsOnly.refl s
  unfold State.takeRequest
  split
  · exact hs.posts ((hsame.discard f).post _)
  · unfold State.giveVerdict
    split
    · exact hs.posts (((hsame.release _).enqueue .i rfl).postDenial ..)
    · exact hs.admitManagement hup ..
    · exact hs.posts (hsame.admitHeld ..)
    · exact hs.posts (hsame.admitReply ..)
    · exact hs.posts (hsame.admitIssued ..)

/-! ## Frames of a target -/

/-- Taking a target's frame only posts when the rule of its kind does. -/
theorem State.PostsOnly.takeTargetFrame {rule : EntryIndex → Exchange → Routing → State} (h : o.PostsOnly s) (k : Target) (f : List Byte)
    (hrule : ∀ i x g, o.PostsOnly (rule i x g)) : o.PostsOnly (s.takeTargetFrame k f rule) := by
  unfold State.takeTargetFrame
  split
  · exact (h.discard f).post _
  · split
    · split
      · exact h.discard f
      · exact (h.discard f).post _
    · exact hrule ..

theorem State.PostsOnly.proceedRule (h : o.PostsOnly s) (k : Target) (f : List Byte) (i : EntryIndex) (x : Exchange) (g : Routing) :
    o.PostsOnly (s.proceedRule k f i x g) := by
  unfold State.proceedRule
  split
  · exact (h.discard f).post _
  · split
    · exact h.discard f
    · split
      · exact (h.discard f).phaseViolation ..
      · exact (h.setExchange i _).enqueue .i rfl

theorem State.PostsOnly.targetDataRule (h : o.PostsOnly s) (k : Target) (f : List Byte) (i : EntryIndex) (x : Exchange) (g : Routing) :
    o.PostsOnly (s.targetDataRule k f i x g) := by
  unfold State.targetDataRule
  split
  · exact (h.discard f).post _
  · split
    · exact h.discard f
    · split
      · exact (h.discard f).phaseViolation ..
      · exact (h.setExchange i _).enqueue .i rfl

theorem State.PostsOnly.statusRule (h : o.PostsOnly s) (k : Target) (f : List Byte) (i : EntryIndex) (x : Exchange) (g : Routing) :
    o.PostsOnly (s.statusRule k f i x g) := by
  unfold State.statusRule
  split
  · exact (h.discard f).post _
  · split
    · split
      · unfold State.endAbortByStatus
        split
        · exact (h.discard f).freeEntry i
        · exact h.deliverStatus ..
      · exact h.discard f
    · split
      · unfold State.acceptStatus
        split
        · exact h.deliverStatus ..
        · exact h.setExchange ..
      · exact (h.discard f).phaseViolation ..

theorem State.PostsOnly.abortDoneRule (h : o.PostsOnly s) (k : Target) (f : List Byte) (i : EntryIndex) (x : Exchange) (g : Routing) :
    o.PostsOnly (s.abortDoneRule k f i x g) := by
  unfold State.abortDoneRule
  split
  · exact h.discard f
  · split
    · split
      · unfold State.endAbortByDone
        split
        · exact (h.discard f).freeEntry i
        · exact (h.enqueue .i rfl).freeEntry i
      · exact h.discard f
    · exact (h.discard f).post _

/-! ## DATA and ABORT from an initiator -/

theorem State.Delivers.bodyRule (hs : s.Delivers) (hup : s.isUp .i = true) (i : EntryIndex) (x : Exchange) (f : List Byte) :
    (s.bodyRule i x f).Delivers := by
  have hsame := State.PostsOnly.refl s
  have htaken : s.PostsOnly (s.setExchange i (x.withBodyFrame f)) := hsame.setExchange ..
  unfold State.bodyRule
  split
  · exact hs.posts ((hsame.discard f).phaseViolation ..)
  · simp only [State.acceptBody]
    split
    · exact (hs.posts htaken).performOperation (htaken.up hup) ..
    · exact hs.posts htaken

theorem State.PostsOnly.movingRule (h : o.PostsOnly s) (i : EntryIndex) (x : Exchange) (g : Routing) (f : List Byte) :
    o.PostsOnly (s.movingRule i x g f) := by
  unfold State.movingRule
  split
  · exact (h.discard f).phaseViolation ..
  · exact (h.setExchange i _).enqueue _ rfl

theorem State.Delivers.initiatorDataRule (hs : s.Delivers) (hup : s.isUp .i = true) (i : EntryIndex) (x : Exchange) (f : List Byte) :
    (s.initiatorDataRule i x f).Delivers := by
  have hdiscarded := (State.PostsOnly.refl s).discard f
  have hviolation : ∀ d, ((s.discard f).phaseViolation i x d).Delivers := fun d => hs.posts (hdiscarded.phaseViolation i x d)
  have hmoving : (match x.routing with
      | some g => s.movingRule i x g f
      | none => (s.discard f).phaseViolation i x (unwantedViolation f)).Delivers := by
    split
    · exact hs.posts ((State.PostsOnly.refl s).movingRule ..)
    · exact hviolation _
  unfold State.initiatorDataRule
  split
  · exact hviolation _
  · split
    · exact hs.posts (hdiscarded.post _)
    · exact hs.bodyRule hup i x f
    · exact hs.posts hdiscarded
    · exact hviolation _
    · exact hviolation _
    · exact hmoving
    · exact hmoving

theorem State.Delivers.takeInitiatorData (hs : s.Delivers) (hup : s.isUp .i = true) (f : List Byte) : (s.takeInitiatorData f).Delivers := by
  have hdiscarded := (State.PostsOnly.refl s).discard f
  unfold State.takeInitiatorData
  split
  · exact hs.posts (hdiscarded.post _)
  · split
    · exact hs.posts (hdiscarded.post _)
    · exact hs.initiatorDataRule hup ..

theorem State.PostsOnly.abortMatched (h : o.PostsOnly s) (i : EntryIndex) (x : Exchange) (f : List Byte) : o.PostsOnly (s.abortMatched i x f) := by
  unfold State.abortMatched
  split
  · exact h.enqueue .i rfl
  · split
    · exact (h.discard f).enterAborting ..
    · exact ((h.withdrawUnseen i x).enqueue .i rfl).freeEntry i

theorem State.PostsOnly.takeAbort (h : o.PostsOnly s) (f : List Byte) : o.PostsOnly (s.takeAbort f) := by
  unfold State.takeAbort
  split
  · exact (h.discard f).post _
  · split
    · exact (h.discard f).post _
    · split
      · exact h.enqueue .i rfl
      · split
        · exact h.enqueue .i rfl
        · exact h.abortMatched ..

/-! ## What follows a descriptor that has been sent or dropped -/

theorem State.PostsOnly.markSent (h : o.PostsOnly s) (r : EntryRef) : o.PostsOnly (s.markSent r) := by
  unfold State.markSent
  split
  · exact h
  · split
    · exact h
    · split
      · exact h.setExchange ..
      · exact h

theorem State.PostsOnly.dataLeft (h : o.PostsOnly s) (i : EntryIndex) (x : Exchange) : o.PostsOnly (s.dataLeft i x) := by
  unfold State.dataLeft
  split
  · exact h.deliverStatus ..
  · exact h.closeAndFree ..
  · exact h.closeManagement ..
  · exact h

theorem State.PostsOnly.dataGone (h : o.PostsOnly s) (i : EntryIndex) (x : Exchange) : o.PostsOnly (s.dataGone i x) := by
  simp only [State.dataGone]
  split
  · exact (h.setExchange i _).dataLeft ..
  · exact h.setExchange ..

theorem State.PostsOnly.dataSent (h : o.PostsOnly s) (d : Descriptor) : o.PostsOnly (s.dataSent d) := by
  unfold State.dataSent
  split
  · exact h
  · split
    · exact h
    · split
      · exact h.dataGone ..
      · exact h.dataGone ..

theorem State.PostsOnly.dataDropped (h : o.PostsOnly s) (d : Descriptor) : o.PostsOnly (s.dataDropped d) := by
  unfold State.dataDropped
  split
  · exact h
  · split
    · exact h
    · dsimp only
      split
      · split
        · exact (h.setExchange ..).deliverStatus ..
        · exact h.setExchange ..
      · exact h.setExchange ..

end Sys2Proof.Machine
end

section
/-! Alert delivery through the warm reset, transmission, the replies and the links (R105, R114, R126 to R134, R147, R148, R160). -/

namespace Sys2Proof.Machine

variable {o s t : State} {p : Port} {d : Descriptor} {rest : List Descriptor}

/-! ## Warm reset (R147, R148) -/

theorem Descriptor.isAbort_not_alert (h : d.isAbort = true) : d.isAlert = false := by
  unfold Descriptor.isAbort at h
  split at h
  · next hc => simp [Descriptor.isAlert, hc]
  · cases h

/-- The purge spares ABORTs alone. -/
theorem State.purgeAll_alertCount (s : State) (p : Port) : alertCount (s.purgeAll.port p).egress = 0 := by
  rw [State.purgeAll_port, PortRecord.purgedBy, alertCount, List.countP_eq_zero]
  simp only [List.mem_map, List.mem_filter]
  rintro _ ⟨d, ⟨-, hspared⟩, rfl⟩
  simp only [State.spares, Bool.and_eq_true] at hspared
  obtain ⟨habort, -⟩ := hspared
  exact Bool.eq_false_iff.1 (Descriptor.isAbort_not_alert habort)

theorem State.PostsOnly.resetEntry (h : o.PostsOnly s) (i : EntryIndex) : o.PostsOnly (s.resetEntry i) := by
  unfold State.resetEntry
  split
  · exact h
  · split
    · split
      · exact h.freeEntry i
      · exact h.closeAndFree ..
    · split
      · exact ((h.enqueue .i rfl).enqueue _ rfl).freeEntry i
      · exact h.closeAndFree ..

theorem PortRecord.afterWarmReset_egress (r : PortRecord) : r.afterWarmReset.egress = r.egress := by
  unfold PortRecord.afterWarmReset
  split <;> rfl

/-- Whatever was being delivered, a warm reset leaves no record, no batch, no owner and no ALERT descriptor. -/
theorem State.takeWarmReset_delivers (s : State) : s.takeWarmReset.Delivers := by
  have htable : s.purgeAll.PostsOnly s.resetTable := .foldl (fun i h => h.resetEntry i) (.refl _) allEntries
  refine State.delivers_of_idle rfl (Nat.zero_le _) (Nat.zero_le _) (fun p => ?_) nofun
  rw [State.takeWarmReset_eq, State.resetBlocks_port, PortRecord.afterWarmReset_egress, htable.queued, State.purgeAll_alertCount]

/-! ## Transmission and discard (R74, R75, R122, R160) -/

/-- What completes a descriptor other than ALERT. -/
theorem State.Delivers.completed (hs : s.Delivers) (p : Port) (hd : d.isAlert = false) : (s.completed p d).Delivers := by
  have hdata : s.PostsOnly (if p = .i ∧ d.isData = true then s.dataSent d else s) := by
    split
    · exact (State.PostsOnly.refl s).dataSent d
    · exact .refl s
  have hsent : ∀ u, s.PostsOnly u → s.PostsOnly (match d.entry with
      | some r => if d.isRequest then u.markSent r else u
      | none => u) := by
    intro u hu
    split
    · split
      · exact hu.markSent _
      · exact hu
    · exact hu
  simp only [State.completed, hd]
  split
  · exact State.takeWarmReset_delivers _
  · exact hs.posts (hsent _ hdata)

/-- A queue with an ALERT descriptor is port I's, it holds no other, and a batch's frame has still to leave (R120, R159). -/
theorem State.Delivers.of_alert_head (hs : s.Delivers) (hq : (s.port p).egress = d :: rest) (hd : d.isAlert = true) :
    p = .i ∧ alertCount rest = 0 := by
  have hcount := hs.queued p
  rw [hq, alertCount_cons_of_alert hd, State.alertsDue] at hcount
  split at hcount
  · next hdue => exact ⟨hdue.1, Nat.succ.inj hcount⟩
  · cases hcount

theorem State.postsOnly_of_head_gone (hq : (s.port p).egress = d :: rest) (hd : d.isAlert = false) {r : PortRecord}
    (hqueue : alertCount r.egress = alertCount rest) (hstate : r.state = (s.port p).state) : s.PostsOnly (s.setPort p r) :=
  (State.PostsOnly.refl s).setPort_sameState (by rw [hqueue, hq, alertCount_cons_of_not_alert hd]) hstate

theorem State.postsOnly_afterSending (hq : (s.port p).egress = d :: rest) (hd : d.isAlert = false) {queue : List Descriptor}
    (hqueue : alertCount queue = alertCount rest) (f : Frame) : s.PostsOnly (s.afterSending p f queue) :=
  State.postsOnly_of_head_gone hq hd hqueue rfl

/-- The ALERT frame has left: no descriptor waits, and the resend deadline runs (R160). -/
theorem State.Delivers.alertSent (hs : s.Delivers) (hrest : ∀ q, alertCount (t.port q).egress = 0) (hup : t.isUp .i = s.isUp .i)
    (hdelivery : t.delivery = s.delivery) : t.alertSent.Delivers := by
  simp only [State.delivery, Prod.mk.injEq] at hdelivery
  obtain ⟨hlease, hbatch, hsequence, halerts, hdropped⟩ := hdelivery
  refine ⟨⟨halerts ▸ hs.alerts, hdropped ▸ hs.dropped, fun b hb => ?_⟩, fun q => (hrest q).trans ?_, fun h => hup ▸ hs.owner (hlease ▸ h)⟩
  · obtain ⟨c, hc, rfl⟩ := Option.map_eq_some_iff.1 hb
    obtain ⟨howned, hone, hfour, hsize, hcarried, hseq⟩ := hs.batch c (hbatch ▸ hc)
    exact ⟨(congrArg Option.isSome hlease).trans howned, hone, hfour, halerts ▸ hsize, hcarried, hseq.trans hsequence.symm⟩
  · have hsent : (t.alertSent.batch.any fun b => b.resend.isNone) = false := by
      rw [State.alertSent, Option.any_map]
      cases t.batch <;> rfl
    simp [State.alertsDue, hsent]

theorem State.Delivers.sendHead_alert (hs : s.Delivers) (hq : (s.port p).egress = d :: rest) (hd : d.isAlert = true) :
    (s.sendHead p d rest).Delivers := by
  have hcontent : d.content = .alert := by simpa [Descriptor.isAlert] using hd
  obtain ⟨hdata, -, -, -⟩ := Descriptor.of_alert hcontent
  obtain ⟨rfl, hrest⟩ := hs.of_alert_head hq hd
  rw [State.sendHead_of_last rest (Descriptor.progressAfter_of_not_data hdata _)]
  cases hmark : d.warmMark with
  | true =>
    simp only [State.completed, hmark, if_true]
    exact State.takeWarmReset_delivers _
  | false =>
    rw [State.completed_of_alert _ _ hcontent hmark]
    refine hs.alertSent (fun q => ?_) (by simp [State.isUp, State.afterSending]) (by simp [State.delivery, State.afterSending])
    rw [State.release_port]
    cases q with
    | i => exact hrest
    | t0 => exact hs.queued .t0
    | t1 => exact hs.queued .t1

theorem State.Delivers.sendHead (hs : s.Delivers) (hq : (s.port p).egress = d :: rest) : (s.sendHead p d rest).Delivers := by
  cases hd : d.isAlert with
  | true => exact hs.sendHead_alert hq hd
  | false =>
    cases hprogress : d.progressAfter (s.segment p) with
    | some n =>
      rw [State.sendHead_of_piece rest hprogress]
      exact hs.posts (State.postsOnly_afterSending hq hd (alertCount_cons_of_not_alert (d := { d with progress := n }) hd rest) _)
    | none =>
      rw [State.sendHead_of_last rest hprogress]
      exact (hs.posts ((State.postsOnly_afterSending hq hd rfl _).release _)).completed p hd

/-- A head that fails its check is no ALERT descriptor: port I checks DATA alone, and the target ports queue none (R74, R75). -/
theorem State.Delivers.failing_head (hs : s.Delivers) (hq : (s.port p).egress = d :: rest) (hfail : s.passesHead p d = false) :
    d.isAlert = false := by
  by_contra hd
  have halert : d.isAlert = true := Bool.eq_true_of_not_eq_false hd
  obtain ⟨rfl, -⟩ := hs.of_alert_head hq halert
  obtain ⟨hdata, -⟩ := Descriptor.of_alert (d := d) (by simpa [Descriptor.isAlert] using halert)
  rw [State.passesHead_of_not_data hdata] at hfail
  cases hfail

theorem State.Delivers.dropHead (hs : s.Delivers) (hq : (s.port p).egress = d :: rest) (hfail : s.passesHead p d = false) :
    (s.dropHead p d rest).Delivers := by
  have hleft := (State.postsOnly_of_head_gone (r := { s.port p with egress := rest }) hq (hs.failing_head hq hfail) rfl rfl).release d.cells
  simp only [State.dropHead]
  split
  · exact hs.posts (hleft.dataDropped d)
  · exact hs.posts hleft

/-! ## Resend and reply service (R105, R160) -/

/-- The batch's frame has left before, so its descriptor is not in the queue, and joins it again. -/
theorem State.Delivers.resendBatch {b : Batch} {due : Clock} (hs : s.Delivers) (hb : s.batch = some b) (hr : b.resend = some due) :
    (s.resendBatch b).Delivers := by
  obtain ⟨howned, hrest⟩ := hs.batch b hb
  have hrecords : ({ s with batch := some { b with resend := none } } : State).RecordsOk :=
    ⟨hs.alerts, hs.dropped, fun c hc => by cases hc; exact ⟨howned, hrest⟩⟩
  exact hrecords.queueAlert rfl rfl (hs.owner howned) fun p => (hs.queued p).trans (by simp [State.alertsDue, hb, hr])

theorem State.PostsOnly.serve (h : o.PostsOnly s) (r : EntryRef) : o.PostsOnly (s.serve r) := by
  unfold State.serve
  split
  · exact h
  · split
    · exact h
    · split
      · simp only [State.startService]
        split
        · exact h.closeAndFree ..
        · exact (h.setExchange ..).enqueueRuns ..
      · exact h

theorem State.PostsOnly.completeResync (h : o.PostsOnly s) : o.PostsOnly s.completeResync := by
  refine State.PostsOnly.post ?_ _
  exact (h.setStaging s.activeBank).congr (fun _ => rfl) rfl

/-! ## Teardown (R130, R132 to R134) -/

theorem State.PostsOnly.endRouted (h : o.PostsOnly s) (k : Target) (i : EntryIndex) : o.PostsOnly (s.endRouted k i) := by
  unfold State.endRouted
  split
  · exact h
  · split
    · exact h
    · split
      · exact h
      · split
        · exact h.freeEntry i
        · exact h.closeAndFree ..

theorem State.PostsOnly.endUnheard (h : o.PostsOnly s) (i : EntryIndex) : o.PostsOnly (s.endUnheard i) := by
  unfold State.endUnheard
  split
  · exact h
  · split
    · exact h.setExchange ..
    · split
      · exact h.enterAborting ..
      · exact (h.withdrawUnseen ..).freeEntry i

theorem State.PostsOnly.endInitiatorLink (h : o.PostsOnly s) : o.PostsOnly s.endInitiatorLink := by
  have hentries := h.foldl (fun i h => h.endUnheard i) allEntries
  unfold State.endInitiatorLink
  generalize allEntries.foldl State.endUnheard s = u at hentries
  exact hentries.congr (fun _ => rfl) rfl

/-- A target port queues no ALERT descriptor, so its teardown takes none (R130, R131). -/
theorem State.Delivers.clearPort_target (hs : s.Delivers) (hp : p ≠ .i) (next : PortState) (why : LinkDetail) :
    s.PostsOnly ((s.clearPort p next).postLink p why) := by
  have hnone : alertCount (s.port p).egress = 0 := (hs.queued p).trans (s.alertsDue_target hp)
  have htorn : s.PostsOnly (s.setPort p ((s.port p).tornTo next)) := (State.PostsOnly.refl s).setPort hnone.symm fun hi => absurd hi hp
  exact (htorn.release _).post _

/-- Port I's teardown takes the ALERT descriptor with the queue, and its lease ends with the batch (R130, R134). -/
theorem State.Delivers.teardown_i (hs : s.Delivers) (next : PortState) (why : LinkDetail) : (s.teardown .i next why).Delivers := by
  have hcleared : (s.clearPort .i next).RecordsOk := ⟨hs.alerts, hs.dropped, hs.batch⟩
  have hqueued : ∀ p, alertCount ((s.clearPort .i next).port p).egress = 0 := fun p => by
    cases p with
    | i => rfl
    | t0 => exact hs.queued .t0
    | t1 => exact hs.queued .t1
  have hposted : (s.clearPort .i next).PostsOnly ((s.clearPort .i next).postLink .i why) := (State.PostsOnly.refl _).post _
  have hposts := hposted.endInitiatorLink
  unfold State.teardown State.endDependants
  exact (hcleared.posts hposts).endLease (fun p _ => (hposts.queued p).trans (hqueued p)) (fun _ => (hposts.queued .i).trans (hqueued .i)) _

theorem State.Delivers.teardown (hs : s.Delivers) (p : Port) (next : PortState) (why : LinkDetail) : (s.teardown p next why).Delivers := by
  cases p with
  | i => exact hs.teardown_i next why
  | t0 => exact hs.posts ((hs.clearPort_target (p := .t0) nofun next why).foldl (fun i h => h.endRouted .t0 i) allEntries)
  | t1 => exact hs.posts ((hs.clearPort_target (p := .t1) nofun next why).foldl (fun i h => h.endRouted .t1 i) allEntries)

/-! ## Bring-up and arriving frames (R114, R127 to R129) -/

/-- The port has not come UP, so no lease depends on it. -/
theorem State.PostsOnly.launchInit (h : o.PostsOnly s) (hstate : (s.port p).state ≠ .up) : o.PostsOnly (s.launchInit p) :=
  (h.setPort (by rfl) fun _ hup => absurd hup hstate).takeCells _

theorem State.PostsOnly.leaveInitWait (h : o.PostsOnly s) (hstate : (s.port p).state ≠ .up) (next : PortState) (failures : Nat) :
    o.PostsOnly (s.leaveInitWait p next failures) :=
  (h.setPort (by rfl) fun _ hup => absurd hup hstate).release _

theorem State.PostsOnly.judgeInit (h : o.PostsOnly s) (hstate : (s.port p).state = .initWait) (f : List Byte) :
    o.PostsOnly (s.judgeInit p f) := by
  unfold State.judgeInit
  split
  · exact (h.setPort (by rfl) fun _ _ => by rfl).post _
  · exact (h.leaveInitWait (by rw [hstate]; nofun) ..).post _

/-- A peer restart: a teardown, a second bring-up and the judgement (R130). -/
theorem State.Delivers.peerRestart (hs : s.Delivers) (p : Port) (f : List Byte) :
    (((s.teardown p .training .peerRestart).launchInit p).judgeInit p f).Delivers := by
  obtain ⟨hstate, -⟩ := s.teardown_port p (next := .training) nofun .peerRestart
  have hlaunched := (State.PostsOnly.refl (s.teardown p .training .peerRestart)).launchInit (p := p) (by rw [hstate]; nofun)
  exact (hs.teardown p .training .peerRestart).posts (hlaunched.judgeInit (State.launchInit_port_state ..) f)

theorem State.PostsOnly.storeArrival (h : o.PostsOnly s) (p : Port) (f : List Byte) : o.PostsOnly (s.storeArrival p f) := by
  simp only [State.storeArrival]
  split
  · exact ((h.setPort_sameState (by rfl) (by rfl)).release _).post _
  · exact (h.setPort_sameState (by rfl) (by rfl)).release _

theorem State.PostsOnly.postWrongLink (h : o.PostsOnly s) (p : Port) (f : List Byte) : o.PostsOnly (s.postWrongLink p f) := by
  unfold State.postWrongLink
  split
  · exact h.post _
  · exact h.post _

end Sys2Proof.Machine
end

section
/-! Every event keeps alert delivery legal (R134, R157 to R160, R162; O54). -/

namespace Sys2Proof.Machine

variable {s t : State}

/-- A frame waits for its consumer on a port in UP alone (R126, R130). -/
theorem State.isUp_of_takeNext {c : Consumer} {p : Port} {f : List Byte} (hs : s.linksOk) (h : s.takeNext c p = some (f, t)) :
    s.isUp p = true := by
  have hlegal : (s.port p).Legal p := hs p
  obtain ⟨rest, hfirst, -⟩ := State.takeNext_some h
  rw [State.isUp_iff]
  by_contra hdown
  obtain ⟨-, hnone, -⟩ := hlegal.quiet hdown
  rw [hnone] at hfirst
  cases hfirst

/-- An event keeps delivery legal: a lease is taken only in a frame from port I, which is UP then. -/
theorem State.Delivers.occurs (hs : s.Delivers) (hlinks : s.linksOk) (h : s.Occurs t) : t.Delivers := by
  have hsame := State.PostsOnly.refl s
  cases h with
  | verdict h =>
    have htaken := State.takeNext_postsOnly h
    exact (hs.posts htaken).takeRequest (htaken.up (State.isUp_of_takeNext hlinks h)) _
  | initiatorData h =>
    have htaken := State.takeKind_postsOnly h
    exact (hs.posts htaken).takeInitiatorData (htaken.up (State.isUp_of_takeNext hlinks (State.takeKind_some h).2)) _
  | initiatorAbort h => exact hs.posts ((State.takeKind_postsOnly h).takeAbort _)
  | targetProceed h =>
    have htaken := State.takeKind_postsOnly h
    exact hs.posts (htaken.takeTargetFrame _ _ fun i x g => htaken.proceedRule _ _ i x g)
  | targetData h =>
    have htaken := State.takeKind_postsOnly h
    exact hs.posts (htaken.takeTargetFrame _ _ fun i x g => htaken.targetDataRule _ _ i x g)
  | targetStatus h =>
    have htaken := State.takeKind_postsOnly h
    exact hs.posts (htaken.takeTargetFrame _ _ fun i x g => htaken.statusRule _ _ i x g)
  | targetAbortDone h =>
    have htaken := State.takeKind_postsOnly h
    exact hs.posts (htaken.takeTargetFrame _ _ fun i x g => htaken.abortDoneRule _ _ i x g)
  | unknownKind h => exact hs.posts (((State.takeNext_postsOnly h).discard _).post _)
  | wrongLink h => exact hs.posts (((State.takeNext_postsOnly h).discard _).postWrongLink ..)
  | exchangeExpiry => exact hs.posts ((hsame.endWithStatus ..).post _)
  | graceOver => exact hs.posts (hsame.freeEntry _)
  | graceAnswered => exact hs.posts ((hsame.enqueue .i rfl).freeEntry _)
  | holdExpiry => exact hs.posts (hsame.expireHold ..)
  | bodyExpiry => exact hs.posts ((hsame.closeAndFree ..).post _)
  | leaseExpiry => exact hs.endLease _
  | resendExpiry hb hr => exact hs.resendBatch hb hr
  | resyncCompletion => exact hs.posts hsame.completeResync
  | @replyService r rest =>
    have hrest : s.PostsOnly { s with startList := rest } := hsame.congr (fun _ => rfl) rfl
    exact hs.posts (hrest.serve r)
  | transmission hq => exact hs.sendHead hq
  | headDiscard hq _ _ hfail => exact hs.dropHead hq hfail
  | signalLossUp => exact hs.teardown ..
  | signalLossDown hdown => exact hs.posts (hsame.leaveInitWait (mt (s.isUp_iff _).2 (Bool.eq_false_iff.1 hdown)) ..)
  | initRetry hover => exact hs.posts (hsame.leaveInitWait (State.initWaitOver_state hover ▸ nofun) ..)
  | initFailure hover => exact hs.posts ((hsame.leaveInitWait (State.initWaitOver_state hover ▸ nofun) ..).post _)
  | initJudged _ hstate => exact hs.posts (hsame.judgeInit hstate _)
  | peerRestart => exact hs.peerRestart ..
  | creditOverrun | noCredit => exact (hs.posts (hsame.post _)).teardown ..
  | creditAdded => exact hs.posts (hsame.setPort_sameState (by rfl) (by rfl))
  | frameStored => exact hs.posts (hsame.storeArrival ..)

theorem State.Delivers.occursPlain (hs : s.Delivers) (h : s.OccursPlain t) : t.Delivers := by
  have hsame := State.PostsOnly.refl s
  cases h with
  | signalPresent h => exact hs.posts (hsame.setPort (by rfl) fun _ hup => by rw [h] at hup; cases hup)
  | laneLock h => exact hs.posts (hsame.launchInit (by rw [h]; nofun))
  | creditSend => exact hs.posts (hsame.setPort_sameState (by rfl) (by rfl))
  | clockTick => exact hs.posts (hsame.congr (fun _ => rfl) rfl)

/-- Link records stay legal whatever the number of cells. -/
theorem State.linksOk_of_answers (hs : s.linksOk) (h : s.Answers t) : t.linksOk := by
  have hpool : s.Pooled s.cellTotal 0 := ⟨hs, Nat.add_zero _⟩
  cases h with
  | absent => exact hs
  | powerOn pin => exact (s.powerOn_pooled pin).links
  | settled h => exact (hpool.occurs h).settle.links
  | plain h => exact (hpool.occursPlain h).links

theorem State.Delivers.answers (hs : s.Delivers) (hlinks : s.linksOk) (h : s.Answers t) : t.Delivers := by
  cases h with
  | absent => exact hs
  | powerOn pin => exact (State.delivers_iff.2 State.reset_deliveryOk).posts ((State.PostsOnly.refl _).congr (fun _ => rfl) rfl)
  | settled h => exact (hs.occurs hlinks h).settle
  | plain h => exact hs.occursPlain h

/-- Settles O54: most of an event only posts alerts; the rest takes or ends a lease, forms, sends, resends or acknowledges a batch, each with its
descriptor. -/
theorem eventsKeepDelivery : Obligations.EventsKeepDelivery := by
  intro s t hlinks hdelivery h
  obtain ⟨rest, h⟩ := step_answers h
  have hrest : ({ s with pending := rest } : State).linksOk := hlinks
  have hs : ({ s with pending := rest } : State).Delivers := State.delivers_iff.2 hdelivery
  exact ⟨State.linksOk_of_answers hrest h, State.delivers_iff.1 (hs.answers hrest h)⟩

end Sys2Proof.Machine
end
